-- ==== Sys2Proof/Word.lean ====
section
/-! DEFINITION. The two word types of the core: bytes and 16-bit words (00_scope.md R4, R6). -/

namespace Sys2Proof

/-- A byte: the data width, and the width of A, X, Y and SP (R4). -/
abbrev Byte := BitVec 8

/-- A 16-bit word: the width of PC and of an address (R4). -/
abbrev Word := BitVec 16

end Sys2Proof
end

