-- ==== Sys2Proof/Machine/Bits.lean ====
section
/-! DEFINITION. Bits, halves and extensions of words, in the notation of 00_scope.md R5 and R6. -/

namespace Sys2Proof

/-- `v[k]`, bit `k` of a byte (R5). -/
def bit (v : Byte) (k : Nat) : Bool := v.getLsbD k

/-- `lo(w)`, bits 7 to 0 (R5). -/
def lo (w : Word) : Byte := w.extractLsb' 0 8

/-- `hi(w)`, bits 15 to 8 (R5). -/
def hi (w : Word) : Byte := w.extractLsb' 8 8

/-- `{h, l}`, the word `h * 256 + l` (R5). -/
def word (h l : Byte) : Word := h ++ l

/-- `zext_16(b)` (R6). -/
def zext (b : Byte) : Word := b.setWidth 16

/-- `sext_16(b)`: two's-complement sign extension (R6). -/
def sext (b : Byte) : Word := b.signExtend 16

/-- One bit as the byte that has it at `mask`'s place, or nothing. -/
def flagBit (f : Bool) (mask : Byte) : Byte := if f then mask else 0#8

end Sys2Proof
end

