-- ==== Sys2Proof/Config.lean ====
section
/-! DEFINITION. What is fixed for the machine: the vectors, the reset value of SP, the stack page, what a byte of RAM
that nothing has written reads as, and the parameter `Mem`: what an attached memory of any other kind answers. -/

namespace Sys2Proof.Machine

/-- One call of the core on the memory port, `read(u16)` or `write(u16, u8)` (20_memory.md R41). -/
inductive Access where
  | read (a : Word)
  | write (a : Word) (v : Byte)
  deriving DecidableEq, Repr

end Sys2Proof.Machine

namespace Sys2Proof.Config

/-- The NMI vector (20_memory.md R48, 60_exceptions.md R239). -/
def nmiVector : Word := 0xFFFA#16

/-- The reset vector (R48, R239). -/
def resetVector : Word := 0xFFFC#16

/-- The vector IRQ and BRK share (R48, R239). -/
def irqVector : Word := 0xFFFE#16

/-- The page every stack access lies in, as the high byte of its address (R25, R47). -/
def stackPage : Byte := 0x01#8

/-- SP after reset (10_state.md R39). -/
def resetSp : Byte := 0xFD#8

/-- The parameter `Mem` (00_scope.md R4, 92_eei_decisions.md D14): the byte an attached memory answers to a read, after
the calls it has had, oldest first. It has no body, so a claim holds whatever stands behind the port: ROM, holes, a
device whose reads or writes have effects (20_memory.md R45), another writer between two calls (D19). The answer may
depend on every call before it, and the calls of one run never repeat, so every sequence of answers is some such
function (notes/assumptions/19.md). -/
opaque portByte : List Machine.Access → Word → Byte

/-- What an address that the memory list does not name reads as. DESIGN CHOICE (notes/assumptions/1.md): the spec
gives memory no initial contents (R4 `mem0`, D14). Unsafe for a claim about `State.reset` itself; a claim about every
state is a claim about every initial contents, since any contents are some list. -/
def unlistedByte : Byte := 0x00#8

/-- The cycle count a faulting step reports (30_encoding.md R64, R71). -/
def faultCycles : Nat := 1

end Sys2Proof.Config
end

