-- ==== Sys2Proof/Machine/Memory.lean ====
section
/-! DEFINITION. The contents of memory as plain data, the device behind the port, and what the port answers and keeps
(20_memory.md R40, R41, R45, R49).

Memory is a list of (cell, byte) pairs in one canonical form: cells strictly rising, each below the device's size, and
no byte equal to what an unlisted cell reads as. Equal memories are then equal lists. -/

namespace Sys2Proof.Machine

/-- The bytes of a memory that differ from `Config.unlistedByte`, by rising cell number. -/
abbrev Memory := List Host.Cell

/-- The byte in a cell. -/
def Memory.get : Memory → Nat → Byte
  | [], _ => Config.unlistedByte
  | (k, b) :: m, a => if a = k then b else Memory.get m a

/-- A cell and its byte in front of a list, or the list alone where the byte is what an unlisted cell reads as. -/
def Memory.cons (a : Nat) (v : Byte) (m : Memory) : Memory := if v = Config.unlistedByte then m else (a, v) :: m

/-- The memory after a byte is written to a cell; the canonical form is kept. -/
def Memory.set : Memory → Nat → Byte → Memory
  | [], a, v => Memory.cons a v []
  | (k, b) :: m, a, v =>
    if a < k then Memory.cons a v ((k, b) :: m)
    else if a = k then Memory.cons a v m
    else (k, b) :: Memory.set m a v

/-- The canonical form, for cells from `start` on and below `size`. -/
def Memory.wfFrom (size : Nat) : Nat → Memory → Bool
  | _, [] => true
  | start, (k, b) :: m => decide (start ≤ k) && decide (k < size) && (b != Config.unlistedByte) && Memory.wfFrom size (k + 1) m

/-- The canonical form of a memory of `size` cells. -/
def Memory.wf (size : Nat) (m : Memory) : Bool := Memory.wfFrom size 0 m

/-- The sizes of the mirrored RAM: "sizes 8, 16, 32, 64, 128, or 1024 bytes" (R49). -/
inductive MirrorSize where
  | b8 | b16 | b32 | b64 | b128 | b1024
  deriving DecidableEq, Repr

/-- What is attached to the memory port, the parameter `Mem` (00_scope.md R4). -/
inductive Device where
  /-- 65,536 bytes of plain RAM, the spec's default (92_eei_decisions.md D14) -/
  | ram64k
  /-- the mirrored RAM of R49 -/
  | mirrored (size : MirrorSize)
  /-- any other pair of total functions `read` and `write`: `Config.portByte` answers its reads -/
  | attached
  deriving DecidableEq, Repr

/-- The bytes of a mirrored RAM (R49). -/
def MirrorSize.bytes : MirrorSize → Nat
  | .b8 => 8
  | .b16 => 16
  | .b32 => 32
  | .b64 => 64
  | .b128 => 128
  | .b1024 => 1024

/-- The number of cells of a RAM (R40, R49). An attached memory of another kind has no cell of its own here. -/
def Device.size : Device → Nat
  | .ram64k => 65536
  | .mirrored s => s.bytes
  | .attached => 0

/-- The cell an address names: "masks the address with `size-1`" (R49). In plain RAM each address is its own cell. -/
def Device.cell (d : Device) (a : Word) : Nat := a.toNat &&& (d.size - 1)

/-- What the port answers to `read(a)`, with these contents and after these calls (R41, R45). -/
def Device.readByte (d : Device) (m : Memory) (calls : List Access) (a : Word) : Byte :=
  match d with
  | .ram64k => m.get (d.cell a)
  | .mirrored _ => m.get (d.cell a)
  | .attached => Config.portByte calls a

/-- The contents after `write(a, v)` (R41). -/
def Device.writeByte (d : Device) (m : Memory) (a : Word) (v : Byte) : Memory :=
  match d with
  | .ram64k => m.set (d.cell a) v
  | .mirrored _ => m.set (d.cell a) v
  | .attached => m

/-- The calls kept after more of them: a RAM needs none, an attached memory may answer by all of them (R45). -/
def Device.record (d : Device) (calls more : List Access) : List Access :=
  match d with
  | .ram64k => calls
  | .mirrored _ => calls
  | .attached => calls ++ more

end Sys2Proof.Machine
end

