-- ==== Sys2Proof/Machine/State.lean ====
section
/-! DEFINITION. The state of the machine (10_state.md R20, R27), its reset and power-on values (R38, R39), and the
reasons a step can stop. -/

namespace Sys2Proof.Machine

/-- The six stored flags (R27). B and Constant have no storage (R36). -/
structure Flags where
  /-- carry, bit 0 (R30) -/
  c : Bool
  /-- zero, bit 1 (R31) -/
  z : Bool
  /-- interrupt disable, bit 2 (R32) -/
  i : Bool
  /-- decimal, bit 3 (R33) -/
  d : Bool
  /-- overflow, bit 6 (R34) -/
  v : Bool
  /-- negative, bit 7 (R35) -/
  n : Bool
  deriving DecidableEq, Repr

/-- The registers and flags of R20, and the memory attached to the port (R41) with the device it stands in (R4, R49). -/
structure State where
  /-- program counter (R26) -/
  pc     : Word
  /-- stack pointer (R25) -/
  sp     : Byte
  /-- accumulator (R22) -/
  a      : Byte
  /-- index register X (R23) -/
  x      : Byte
  /-- index register Y (R24) -/
  y      : Byte
  /-- the flags (R27) -/
  p      : Flags
  /-- the contents of the attached memory (R41) -/
  mem    : Memory
  /-- the attached memory device (R4, R49) -/
  device : Device
  /-- the calls an attached memory has had, oldest first, by which it answers (R4, R45); a RAM keeps none -/
  calls  : List Access
  deriving DecidableEq, Repr

/-- Why the machine stops. -/
inductive Fault where
  /-- Raised by `step` when the byte at PC is none of the 151 legal opcodes (30_encoding.md R64, 60_exceptions.md
  R230). Nothing is committed. Safe: the spec names this very outcome. -/
  | opcodeNotInSet (op : Byte)
  deriving DecidableEq, Repr

/-- Why an instruction is refused. -/
inductive Refusal where
  /-- An instruction with no meaning yet, refused by `exec`'s arm. Safe. No arm of this model answers so. -/
  | notModelled (mnemonic : String)
  deriving DecidableEq, Repr

/-- What a step or a meaning answers. -/
abbrev Result := Host.Outcome State Fault Refusal

/-- The power-on state over a memory: every register and flag zero (R38). -/
def State.powerOn (device : Device) (mem : Memory) : State where
  pc := 0#16
  sp := 0#8
  a := 0#8
  x := 0#8
  y := 0#8
  p := ⟨false, false, false, false, false, false⟩
  mem := mem
  device := device
  calls := []

/-- The machine right after reset (R39, R260), over 65,536 bytes of plain RAM that lists nothing
(notes/assumptions/1.md, 3.md). PC is the word at the reset vector of that memory. -/
def State.reset : State where
  pc := word (Memory.get [] (Device.ram64k.cell (Config.resetVector + 1#16))) (Memory.get [] (Device.ram64k.cell Config.resetVector))
  sp := Config.resetSp
  a := 0#8
  x := 0#8
  y := 0#8
  p := ⟨false, false, true, false, false, false⟩
  mem := []
  device := .ram64k
  calls := []

end Sys2Proof.Machine
end

