-- ==== Sys2Proof/Machine/Flags.lean ====
section
/-! DEFINITION. The status byte (10_state.md R27 to R29) and every flag computation of files 43 to 46. -/

namespace Sys2Proof.Machine

/-- `P8()`, the byte view of the flags: bit 5 reads 1 and bit 4 reads 0 (R27; 90_conflicts.md C6,
notes/assumptions/10.md). -/
def Flags.view (p : Flags) : Byte :=
  flagBit p.n 0x80#8 ||| flagBit p.v 0x40#8 ||| 0x20#8 ||| flagBit p.d 0x08#8 ||| flagBit p.i 0x04#8
    ||| flagBit p.z 0x02#8 ||| flagBit p.c 0x01#8

/-- `P8push(b)`, the byte pushed for the status: `b` is true for PHP and BRK, false for IRQ and NMI (R28). -/
def Flags.pushed (p : Flags) (b : Bool) : Byte := p.view ||| 0x20#8 ||| flagBit b 0x10#8

/-- `SetP(byte)`, the flags a pulled byte gives; bits 4 and 5 are ignored (R29). -/
def Flags.ofByte (v : Byte) : Flags := ⟨bit v 0, bit v 1, bit v 2, bit v 3, bit v 6, bit v 7⟩

/-- `SetZN(v)` (00_scope.md R7). -/
def Flags.setZN (p : Flags) (v : Byte) : Flags := { p with z := v == 0#8, n := bit v 7 }

/-- A result byte with the carry and overflow that go with it. -/
structure Sum where
  result   : Byte
  carry    : Bool
  overflow : Bool
  deriving DecidableEq, Repr

/-- Signed overflow of an addition, as R161 writes it: the operands agree in sign and the result does not. -/
def signedOverflow (a v r : Byte) : Bool := ((a ^^^ v) &&& 0x80#8) == 0#8 && ((a ^^^ r) &&& 0x80#8) != 0#8

/-- ADC, binary (45_arithmetic_compare.md R161). -/
def adcBinary (a v : Byte) (c : Bool) : Sum :=
  let r16 := a.toNat + v.toNat + c.toNat
  let r8 := BitVec.ofNat 8 r16
  ⟨r8, decide (r16 > 0xFF), signedOverflow a v r8⟩

/-- ADC, packed BCD (R162; the flags' convention is the spec's decision D7, notes/assumptions/8.md): N and Z come from
the final byte, V from the sum before the high-digit adjustment. -/
def adcDecimal (a v : Byte) (c : Bool) : Sum :=
  let low := (a &&& 0x0F#8).toNat + (v &&& 0x0F#8).toNat + c.toNat
  let lo := if low ≥ 10 then 0x10 ||| ((low + 6) &&& 0x0F) else low
  let res1 := lo + (a &&& 0xF0#8).toNat + (v &&& 0xF0#8).toNat
  let res := if res1 ≥ 0xA0 then res1 + 0x60 else res1
  ⟨BitVec.ofNat 8 res, decide (res ≥ 0x100), signedOverflow a v (BitVec.ofNat 8 res1)⟩

/-- SBC, binary: the addition of the one's complement (R164). -/
def sbcBinary (a v : Byte) (c : Bool) : Sum :=
  let w := v ^^^ 0xFF#8
  let r16 := a.toNat + w.toNat + c.toNat
  let r8 := BitVec.ofNat 8 r16
  ⟨r8, decide (r16 ≥ 0x100), signedOverflow a w r8⟩

/-- SBC, packed BCD, over the integers (R165; the spec's decision D8, notes/assumptions/9.md). An intermediate can be
negative when a nibble of `v` is above 9; the low byte is then the two's-complement one. -/
def sbcDecimal (a v : Byte) (c : Bool) : Sum :=
  let low : Int := 0x0F + (a &&& 0x0F#8).toNat - (v &&& 0x0F#8).toNat + c.toNat
  let lo : Int := if low < 0x10 then low - 6 else low - 0x10
  let ua : Int := if low < 0x10 then 0 else 0x10
  let high : Int := ua + 0xF0 + (a &&& 0xF0#8).toNat - (v &&& 0xF0#8).toNat
  let hi : Int := if high < 0x100 then high - 0x60 else high
  let res : Int := lo + hi
  let r8 := BitVec.ofInt 8 res
  ⟨r8, decide (res ≥ 0x100), signedOverflow a (v ^^^ 0xFF#8) r8⟩

/-- ADC by the decimal flag (R160). -/
def adcSum (p : Flags) (a v : Byte) : Sum := if p.d then adcDecimal a v p.c else adcBinary a v p.c

/-- SBC by the decimal flag (R163). -/
def sbcSum (p : Flags) (a v : Byte) : Sum := if p.d then sbcDecimal a v p.c else sbcBinary a v p.c

/-- The flags ADC and SBC leave: C, V and, from the result byte, Z and N; I and D stay (R160, R163). -/
def Flags.ofSum (p : Flags) (r : Sum) : Flags := { p with c := r.carry, v := r.overflow }.setZN r.result

/-- The compare helper: C from `r ≥ v`, Z and N from the low byte of the 16-bit difference (R169). -/
def Flags.compare (p : Flags) (r v : Byte) : Flags :=
  let d := (r.toNat + 65536 - v.toNat) % 65536
  { p with c := decide (r.toNat ≥ v.toNat) }.setZN (BitVec.ofNat 8 (d &&& 0xFF))

/-- A shifted byte with the bit that left it. -/
structure Shifted where
  result : Byte
  carry  : Bool
  deriving DecidableEq, Repr

/-- ASL (44_shift_rotate.md R150). -/
def aslByte (v : Byte) : Shifted := ⟨v <<< 1, bit v 7⟩

/-- LSR (R151). -/
def lsrByte (v : Byte) : Shifted := ⟨v >>> 1, bit v 0⟩

/-- ROL: a nine-bit rotation through C (R152). -/
def rolByte (v : Byte) (c : Bool) : Shifted := ⟨(v <<< 1) ||| flagBit c 0x01#8, bit v 7⟩

/-- ROR (R153). -/
def rorByte (v : Byte) (c : Bool) : Shifted := ⟨(v >>> 1) ||| flagBit c 0x80#8, bit v 0⟩

/-- The flags a shift or rotate leaves: C, and Z and N of the result (R150 to R153). -/
def Flags.ofShift (p : Flags) (r : Shifted) : Flags := { p with c := r.carry }.setZN r.result

/-- The flags BIT leaves: Z of the and, N and V from the operand's own bits 7 and 6 (43_logical_bit.md R143). -/
def Flags.bitTest (p : Flags) (a v : Byte) : Flags := { p with z := (v &&& a) == 0#8, n := bit v 7, v := bit v 6 }

end Sys2Proof.Machine
end

