-- ==== Sys2Proof/Machine/Ops.lean ====
section
/-! DEFINITION. The named operations over memory and registers: the port (20_memory.md R41), the stack helpers
(40_step_and_addressing.md R95 to R100), taking an interrupt (49_brk_rti.md R220) and returning from one (R222). -/

namespace Sys2Proof.Machine

/-- The byte of `MemRead(a, 1)`, one read of the port (R41, R44). It never fails. -/
def State.read (s : State) (a : Word) : Byte := s.device.readByte s.mem s.calls a

/-- The state after reads of the port at these addresses, in order. Only an attached memory of its own kind can tell: a
read of RAM changes nothing (R45). -/
def State.afterReads (s : State) (l : List Word) : State := { s with calls := s.device.record s.calls (l.map .read) }

/-- `MemWrite(a, 1, v)`: one write of the port (R41, R44). It never fails. -/
def State.write (s : State) (a : Word) (v : Byte) : State :=
  { s with mem := s.device.writeByte s.mem a v, calls := s.device.record s.calls [.write a v] }

/-- The word of two reads, the low byte's first (R42). -/
def State.readPair (s : State) (low high : Word) : Word := word ((s.afterReads [low]).read high) (s.read low)

/-- `Read16(a)`: low byte at `a`, then high byte at `a +16 1` (00_scope.md R7, 20_memory.md R42, R56). -/
def State.read16 (s : State) (a : Word) : Word := s.readPair a (a + 1#16)

/-- The address of a stack slot: `{0x01, SP}` (R25, R47). -/
def stackAddr (sp : Byte) : Word := word Config.stackPage sp

/-- `push_byte(v)` (R95). -/
def State.pushByte (s : State) (v : Byte) : State := { s.write (stackAddr s.sp) v with sp := s.sp - 1#8 }

/-- `push_address(w)`: high byte first (R96). -/
def State.pushWord (s : State) (w : Word) : State := (s.pushByte (hi w)).pushByte (lo w)

/-- `push_status(b)` (R97). -/
def State.pushStatus (s : State) (b : Bool) : State := s.pushByte (s.p.pushed b)

/-- The byte `pull_byte()` gives: "increment `sp`, then read at the new `sp`" (R98). -/
def State.pulledByte (s : State) : Byte := s.read (stackAddr (s.sp + 1#8))

/-- The state after `pull_byte()`: SP one up, one read made there (R98). The byte stays in memory. -/
def State.popped (s : State) : State := { s.afterReads [stackAddr (s.sp + 1#8)] with sp := s.sp + 1#8 }

/-- The word `pull_address()` gives: low then high (R99). -/
def State.pulledWord (s : State) : Word := word s.popped.pulledByte s.pulledByte

/-- `pull_status()`: the flags of the pulled byte (R100, R29). -/
def State.pullStatus (s : State) : State := { s.popped with p := Flags.ofByte s.pulledByte }

/-- Taking an interrupt, shared by BRK, IRQ and NMI (R220, 60_exceptions.md R238): the return address, high byte
first, then the status as it was, then I is set, then PC comes from the vector, read after the pushes. -/
def State.interrupt (s : State) (ret : Word) (b : Bool) (vec : Word) : State :=
  let t := (s.pushWord ret).pushStatus b
  { t.afterReads [vec, vec + 1#16] with p := { t.p with i := true }, pc := t.read16 vec }

/-- Returning from one: the status, then the address low byte first, with no adjustment (R222, R240). -/
def State.returnFromInterrupt (s : State) : State :=
  let t := s.pullStatus
  { t.popped.popped with pc := t.pulledWord }

end Sys2Proof.Machine
end

