-- ==== Sys2Proof/Syntax.lean ====
section
/-! DEFINITION. The instruction set as syntax: mnemonics, addressing modes, operands, and one constructor of
`Instr` for each of the 151 rows of spec/opcode_table.json (30_encoding.md R60, R61, R63).

An operand byte or word is a bit vector of exactly its encoded width, since every byte value is a legal operand in
every mode (R65). A word operand is `{byte 2, byte 1}`, low byte first in memory (R62). -/

namespace Sys2Proof

/-- The 56 mnemonics of R63. -/
inductive Mnemonic where
  | lda | ldx | ldy | sta | stx | sty | tax | tay
  | tsx | txa | txs | tya | pha | php | pla | plp
  | and | ora | eor | bit | asl | lsr | rol | ror
  | adc | sbc | cmp | cpx | cpy | inc | dec | inx
  | dex | iny | dey | bcc | bcs | beq | bne | bmi
  | bpl | bvc | bvs | jmp | jsr | rts | clc | sec
  | cld | sed | cli | sei | clv | nop | brk | rti
  deriving DecidableEq, Repr

/-- The thirteen addressing modes (40_step_and_addressing.md R83 to R94, R101; 90_conflicts.md C1). -/
inductive Mode where
  | accumulator | implied | immediate | absolute | absoluteX | absoluteY | zeroPage | zeroPageX | zeroPageY
  | indirect | indirectX | indirectY | relative
  deriving DecidableEq, Repr

/-- A mode with the operand its instruction bytes carry (R61, R62). -/
inductive Operand where
  | accumulator
  | implied
  | immediate (b : Byte)
  | absolute (w : Word)
  | absoluteX (w : Word)
  | absoluteY (w : Word)
  | zeroPage (b : Byte)
  | zeroPageX (b : Byte)
  | zeroPageY (b : Byte)
  | indirect (w : Word)
  | indirectX (b : Byte)
  | indirectY (b : Byte)
  | relative (b : Byte)
  deriving DecidableEq, Repr

/-- The instructions: one constructor per legal opcode (R63). The name is the mnemonic, followed by the addressing
mode where the mnemonic has more than one. -/
inductive Instr where
  | ldaImmediate (b : Byte)
  | ldaAbsolute (w : Word)
  | ldaAbsoluteX (w : Word)
  | ldaAbsoluteY (w : Word)
  | ldaZeroPage (b : Byte)
  | ldaZeroPageX (b : Byte)
  | ldaIndirectX (b : Byte)
  | ldaIndirectY (b : Byte)
  | ldxImmediate (b : Byte)
  | ldxAbsolute (w : Word)
  | ldxAbsoluteY (w : Word)
  | ldxZeroPage (b : Byte)
  | ldxZeroPageY (b : Byte)
  | ldyImmediate (b : Byte)
  | ldyAbsolute (w : Word)
  | ldyAbsoluteX (w : Word)
  | ldyZeroPage (b : Byte)
  | ldyZeroPageX (b : Byte)
  | staAbsolute (w : Word)
  | staAbsoluteX (w : Word)
  | staAbsoluteY (w : Word)
  | staZeroPage (b : Byte)
  | staZeroPageX (b : Byte)
  | staIndirectX (b : Byte)
  | staIndirectY (b : Byte)
  | stxAbsolute (w : Word)
  | stxZeroPage (b : Byte)
  | stxZeroPageY (b : Byte)
  | styAbsolute (w : Word)
  | styZeroPage (b : Byte)
  | styZeroPageX (b : Byte)
  | tax
  | tay
  | tsx
  | txa
  | txs
  | tya
  | pha
  | php
  | pla
  | plp
  | andImmediate (b : Byte)
  | andAbsolute (w : Word)
  | andAbsoluteX (w : Word)
  | andAbsoluteY (w : Word)
  | andZeroPage (b : Byte)
  | andZeroPageX (b : Byte)
  | andIndirectX (b : Byte)
  | andIndirectY (b : Byte)
  | oraImmediate (b : Byte)
  | oraAbsolute (w : Word)
  | oraAbsoluteX (w : Word)
  | oraAbsoluteY (w : Word)
  | oraZeroPage (b : Byte)
  | oraZeroPageX (b : Byte)
  | oraIndirectX (b : Byte)
  | oraIndirectY (b : Byte)
  | eorImmediate (b : Byte)
  | eorAbsolute (w : Word)
  | eorAbsoluteX (w : Word)
  | eorAbsoluteY (w : Word)
  | eorZeroPage (b : Byte)
  | eorZeroPageX (b : Byte)
  | eorIndirectX (b : Byte)
  | eorIndirectY (b : Byte)
  | bitAbsolute (w : Word)
  | bitZeroPage (b : Byte)
  | aslAccumulator
  | aslAbsolute (w : Word)
  | aslAbsoluteX (w : Word)
  | aslZeroPage (b : Byte)
  | aslZeroPageX (b : Byte)
  | lsrAccumulator
  | lsrAbsolute (w : Word)
  | lsrAbsoluteX (w : Word)
  | lsrZeroPage (b : Byte)
  | lsrZeroPageX (b : Byte)
  | rolAccumulator
  | rolAbsolute (w : Word)
  | rolAbsoluteX (w : Word)
  | rolZeroPage (b : Byte)
  | rolZeroPageX (b : Byte)
  | rorAccumulator
  | rorAbsolute (w : Word)
  | rorAbsoluteX (w : Word)
  | rorZeroPage (b : Byte)
  | rorZeroPageX (b : Byte)
  | adcImmediate (b : Byte)
  | adcAbsolute (w : Word)
  | adcAbsoluteX (w : Word)
  | adcAbsoluteY (w : Word)
  | adcZeroPage (b : Byte)
  | adcZeroPageX (b : Byte)
  | adcIndirectX (b : Byte)
  | adcIndirectY (b : Byte)
  | sbcImmediate (b : Byte)
  | sbcAbsolute (w : Word)
  | sbcAbsoluteX (w : Word)
  | sbcAbsoluteY (w : Word)
  | sbcZeroPage (b : Byte)
  | sbcZeroPageX (b : Byte)
  | sbcIndirectX (b : Byte)
  | sbcIndirectY (b : Byte)
  | cmpImmediate (b : Byte)
  | cmpAbsolute (w : Word)
  | cmpAbsoluteX (w : Word)
  | cmpAbsoluteY (w : Word)
  | cmpZeroPage (b : Byte)
  | cmpZeroPageX (b : Byte)
  | cmpIndirectX (b : Byte)
  | cmpIndirectY (b : Byte)
  | cpxImmediate (b : Byte)
  | cpxAbsolute (w : Word)
  | cpxZeroPage (b : Byte)
  | cpyImmediate (b : Byte)
  | cpyAbsolute (w : Word)
  | cpyZeroPage (b : Byte)
  | incAbsolute (w : Word)
  | incAbsoluteX (w : Word)
  | incZeroPage (b : Byte)
  | incZeroPageX (b : Byte)
  | decAbsolute (w : Word)
  | decAbsoluteX (w : Word)
  | decZeroPage (b : Byte)
  | decZeroPageX (b : Byte)
  | inx
  | dex
  | iny
  | dey
  | bcc (b : Byte)
  | bcs (b : Byte)
  | beq (b : Byte)
  | bne (b : Byte)
  | bmi (b : Byte)
  | bpl (b : Byte)
  | bvc (b : Byte)
  | bvs (b : Byte)
  | jmpAbsolute (w : Word)
  | jmpIndirect (w : Word)
  | jsr (w : Word)
  | rts
  | clc
  | sec
  | cld
  | sed
  | cli
  | sei
  | clv
  | nop
  | brk
  | rti
  deriving DecidableEq, Repr

end Sys2Proof
end

