-- ==== Sys2Proof/Machine/Shape.lean ====
section
/-! DEFINITION. The parts of an instruction: its mnemonic, its addressing mode with operand, and its length
(30_encoding.md R60, R61, R63). -/

namespace Sys2Proof

/-- The number of operand bytes of a mode: `pc_advance`, "number of bytes after the opcode consumed by addressing
(0-2)" (R60, R61, R82). -/
def Mode.adv : Mode → Nat
  | .accumulator => 0
  | .implied => 0
  | .immediate => 1
  | .absolute => 2
  | .absoluteX => 2
  | .absoluteY => 2
  | .zeroPage => 1
  | .zeroPageX => 1
  | .zeroPageY => 1
  | .indirect => 2
  | .indirectX => 1
  | .indirectY => 1
  | .relative => 1

/-- The mode of an operand. -/
def Operand.mode : Operand → Mode
  | .accumulator => .accumulator
  | .implied => .implied
  | .immediate _ => .immediate
  | .absolute _ => .absolute
  | .absoluteX _ => .absoluteX
  | .absoluteY _ => .absoluteY
  | .zeroPage _ => .zeroPage
  | .zeroPageX _ => .zeroPageX
  | .zeroPageY _ => .zeroPageY
  | .indirect _ => .indirect
  | .indirectX _ => .indirectX
  | .indirectY _ => .indirectY
  | .relative _ => .relative

/-- The operand bytes of an operand, at ascending addresses: a word's low byte first (R61, R62). -/
def Operand.bytes : Operand → List Byte
  | .accumulator => []
  | .implied => []
  | .immediate b => [b]
  | .absolute w => [lo w, hi w]
  | .absoluteX w => [lo w, hi w]
  | .absoluteY w => [lo w, hi w]
  | .zeroPage b => [b]
  | .zeroPageX b => [b]
  | .zeroPageY b => [b]
  | .indirect w => [lo w, hi w]
  | .indirectX b => [b]
  | .indirectY b => [b]
  | .relative b => [b]

/-- The mnemonic of an instruction (R63). -/
def Instr.mnemonic : Instr → Mnemonic
  | .ldaImmediate _ => .lda
  | .ldaAbsolute _ => .lda
  | .ldaAbsoluteX _ => .lda
  | .ldaAbsoluteY _ => .lda
  | .ldaZeroPage _ => .lda
  | .ldaZeroPageX _ => .lda
  | .ldaIndirectX _ => .lda
  | .ldaIndirectY _ => .lda
  | .ldxImmediate _ => .ldx
  | .ldxAbsolute _ => .ldx
  | .ldxAbsoluteY _ => .ldx
  | .ldxZeroPage _ => .ldx
  | .ldxZeroPageY _ => .ldx
  | .ldyImmediate _ => .ldy
  | .ldyAbsolute _ => .ldy
  | .ldyAbsoluteX _ => .ldy
  | .ldyZeroPage _ => .ldy
  | .ldyZeroPageX _ => .ldy
  | .staAbsolute _ => .sta
  | .staAbsoluteX _ => .sta
  | .staAbsoluteY _ => .sta
  | .staZeroPage _ => .sta
  | .staZeroPageX _ => .sta
  | .staIndirectX _ => .sta
  | .staIndirectY _ => .sta
  | .stxAbsolute _ => .stx
  | .stxZeroPage _ => .stx
  | .stxZeroPageY _ => .stx
  | .styAbsolute _ => .sty
  | .styZeroPage _ => .sty
  | .styZeroPageX _ => .sty
  | .tax => .tax
  | .tay => .tay
  | .tsx => .tsx
  | .txa => .txa
  | .txs => .txs
  | .tya => .tya
  | .pha => .pha
  | .php => .php
  | .pla => .pla
  | .plp => .plp
  | .andImmediate _ => .and
  | .andAbsolute _ => .and
  | .andAbsoluteX _ => .and
  | .andAbsoluteY _ => .and
  | .andZeroPage _ => .and
  | .andZeroPageX _ => .and
  | .andIndirectX _ => .and
  | .andIndirectY _ => .and
  | .oraImmediate _ => .ora
  | .oraAbsolute _ => .ora
  | .oraAbsoluteX _ => .ora
  | .oraAbsoluteY _ => .ora
  | .oraZeroPage _ => .ora
  | .oraZeroPageX _ => .ora
  | .oraIndirectX _ => .ora
  | .oraIndirectY _ => .ora
  | .eorImmediate _ => .eor
  | .eorAbsolute _ => .eor
  | .eorAbsoluteX _ => .eor
  | .eorAbsoluteY _ => .eor
  | .eorZeroPage _ => .eor
  | .eorZeroPageX _ => .eor
  | .eorIndirectX _ => .eor
  | .eorIndirectY _ => .eor
  | .bitAbsolute _ => .bit
  | .bitZeroPage _ => .bit
  | .aslAccumulator => .asl
  | .aslAbsolute _ => .asl
  | .aslAbsoluteX _ => .asl
  | .aslZeroPage _ => .asl
  | .aslZeroPageX _ => .asl
  | .lsrAccumulator => .lsr
  | .lsrAbsolute _ => .lsr
  | .lsrAbsoluteX _ => .lsr
  | .lsrZeroPage _ => .lsr
  | .lsrZeroPageX _ => .lsr
  | .rolAccumulator => .rol
  | .rolAbsolute _ => .rol
  | .rolAbsoluteX _ => .rol
  | .rolZeroPage _ => .rol
  | .rolZeroPageX _ => .rol
  | .rorAccumulator => .ror
  | .rorAbsolute _ => .ror
  | .rorAbsoluteX _ => .ror
  | .rorZeroPage _ => .ror
  | .rorZeroPageX _ => .ror
  | .adcImmediate _ => .adc
  | .adcAbsolute _ => .adc
  | .adcAbsoluteX _ => .adc
  | .adcAbsoluteY _ => .adc
  | .adcZeroPage _ => .adc
  | .adcZeroPageX _ => .adc
  | .adcIndirectX _ => .adc
  | .adcIndirectY _ => .adc
  | .sbcImmediate _ => .sbc
  | .sbcAbsolute _ => .sbc
  | .sbcAbsoluteX _ => .sbc
  | .sbcAbsoluteY _ => .sbc
  | .sbcZeroPage _ => .sbc
  | .sbcZeroPageX _ => .sbc
  | .sbcIndirectX _ => .sbc
  | .sbcIndirectY _ => .sbc
  | .cmpImmediate _ => .cmp
  | .cmpAbsolute _ => .cmp
  | .cmpAbsoluteX _ => .cmp
  | .cmpAbsoluteY _ => .cmp
  | .cmpZeroPage _ => .cmp
  | .cmpZeroPageX _ => .cmp
  | .cmpIndirectX _ => .cmp
  | .cmpIndirectY _ => .cmp
  | .cpxImmediate _ => .cpx
  | .cpxAbsolute _ => .cpx
  | .cpxZeroPage _ => .cpx
  | .cpyImmediate _ => .cpy
  | .cpyAbsolute _ => .cpy
  | .cpyZeroPage _ => .cpy
  | .incAbsolute _ => .inc
  | .incAbsoluteX _ => .inc
  | .incZeroPage _ => .inc
  | .incZeroPageX _ => .inc
  | .decAbsolute _ => .dec
  | .decAbsoluteX _ => .dec
  | .decZeroPage _ => .dec
  | .decZeroPageX _ => .dec
  | .inx => .inx
  | .dex => .dex
  | .iny => .iny
  | .dey => .dey
  | .bcc _ => .bcc
  | .bcs _ => .bcs
  | .beq _ => .beq
  | .bne _ => .bne
  | .bmi _ => .bmi
  | .bpl _ => .bpl
  | .bvc _ => .bvc
  | .bvs _ => .bvs
  | .jmpAbsolute _ => .jmp
  | .jmpIndirect _ => .jmp
  | .jsr _ => .jsr
  | .rts => .rts
  | .clc => .clc
  | .sec => .sec
  | .cld => .cld
  | .sed => .sed
  | .cli => .cli
  | .sei => .sei
  | .clv => .clv
  | .nop => .nop
  | .brk => .brk
  | .rti => .rti

/-- The addressing mode of an instruction with its operand (R63). -/
def Instr.operand : Instr → Operand
  | .ldaImmediate b => .immediate b
  | .ldaAbsolute w => .absolute w
  | .ldaAbsoluteX w => .absoluteX w
  | .ldaAbsoluteY w => .absoluteY w
  | .ldaZeroPage b => .zeroPage b
  | .ldaZeroPageX b => .zeroPageX b
  | .ldaIndirectX b => .indirectX b
  | .ldaIndirectY b => .indirectY b
  | .ldxImmediate b => .immediate b
  | .ldxAbsolute w => .absolute w
  | .ldxAbsoluteY w => .absoluteY w
  | .ldxZeroPage b => .zeroPage b
  | .ldxZeroPageY b => .zeroPageY b
  | .ldyImmediate b => .immediate b
  | .ldyAbsolute w => .absolute w
  | .ldyAbsoluteX w => .absoluteX w
  | .ldyZeroPage b => .zeroPage b
  | .ldyZeroPageX b => .zeroPageX b
  | .staAbsolute w => .absolute w
  | .staAbsoluteX w => .absoluteX w
  | .staAbsoluteY w => .absoluteY w
  | .staZeroPage b => .zeroPage b
  | .staZeroPageX b => .zeroPageX b
  | .staIndirectX b => .indirectX b
  | .staIndirectY b => .indirectY b
  | .stxAbsolute w => .absolute w
  | .stxZeroPage b => .zeroPage b
  | .stxZeroPageY b => .zeroPageY b
  | .styAbsolute w => .absolute w
  | .styZeroPage b => .zeroPage b
  | .styZeroPageX b => .zeroPageX b
  | .tax => .implied
  | .tay => .implied
  | .tsx => .implied
  | .txa => .implied
  | .txs => .implied
  | .tya => .implied
  | .pha => .implied
  | .php => .implied
  | .pla => .implied
  | .plp => .implied
  | .andImmediate b => .immediate b
  | .andAbsolute w => .absolute w
  | .andAbsoluteX w => .absoluteX w
  | .andAbsoluteY w => .absoluteY w
  | .andZeroPage b => .zeroPage b
  | .andZeroPageX b => .zeroPageX b
  | .andIndirectX b => .indirectX b
  | .andIndirectY b => .indirectY b
  | .oraImmediate b => .immediate b
  | .oraAbsolute w => .absolute w
  | .oraAbsoluteX w => .absoluteX w
  | .oraAbsoluteY w => .absoluteY w
  | .oraZeroPage b => .zeroPage b
  | .oraZeroPageX b => .zeroPageX b
  | .oraIndirectX b => .indirectX b
  | .oraIndirectY b => .indirectY b
  | .eorImmediate b => .immediate b
  | .eorAbsolute w => .absolute w
  | .eorAbsoluteX w => .absoluteX w
  | .eorAbsoluteY w => .absoluteY w
  | .eorZeroPage b => .zeroPage b
  | .eorZeroPageX b => .zeroPageX b
  | .eorIndirectX b => .indirectX b
  | .eorIndirectY b => .indirectY b
  | .bitAbsolute w => .absolute w
  | .bitZeroPage b => .zeroPage b
  | .aslAccumulator => .accumulator
  | .aslAbsolute w => .absolute w
  | .aslAbsoluteX w => .absoluteX w
  | .aslZeroPage b => .zeroPage b
  | .aslZeroPageX b => .zeroPageX b
  | .lsrAccumulator => .accumulator
  | .lsrAbsolute w => .absolute w
  | .lsrAbsoluteX w => .absoluteX w
  | .lsrZeroPage b => .zeroPage b
  | .lsrZeroPageX b => .zeroPageX b
  | .rolAccumulator => .accumulator
  | .rolAbsolute w => .absolute w
  | .rolAbsoluteX w => .absoluteX w
  | .rolZeroPage b => .zeroPage b
  | .rolZeroPageX b => .zeroPageX b
  | .rorAccumulator => .accumulator
  | .rorAbsolute w => .absolute w
  | .rorAbsoluteX w => .absoluteX w
  | .rorZeroPage b => .zeroPage b
  | .rorZeroPageX b => .zeroPageX b
  | .adcImmediate b => .immediate b
  | .adcAbsolute w => .absolute w
  | .adcAbsoluteX w => .absoluteX w
  | .adcAbsoluteY w => .absoluteY w
  | .adcZeroPage b => .zeroPage b
  | .adcZeroPageX b => .zeroPageX b
  | .adcIndirectX b => .indirectX b
  | .adcIndirectY b => .indirectY b
  | .sbcImmediate b => .immediate b
  | .sbcAbsolute w => .absolute w
  | .sbcAbsoluteX w => .absoluteX w
  | .sbcAbsoluteY w => .absoluteY w
  | .sbcZeroPage b => .zeroPage b
  | .sbcZeroPageX b => .zeroPageX b
  | .sbcIndirectX b => .indirectX b
  | .sbcIndirectY b => .indirectY b
  | .cmpImmediate b => .immediate b
  | .cmpAbsolute w => .absolute w
  | .cmpAbsoluteX w => .absoluteX w
  | .cmpAbsoluteY w => .absoluteY w
  | .cmpZeroPage b => .zeroPage b
  | .cmpZeroPageX b => .zeroPageX b
  | .cmpIndirectX b => .indirectX b
  | .cmpIndirectY b => .indirectY b
  | .cpxImmediate b => .immediate b
  | .cpxAbsolute w => .absolute w
  | .cpxZeroPage b => .zeroPage b
  | .cpyImmediate b => .immediate b
  | .cpyAbsolute w => .absolute w
  | .cpyZeroPage b => .zeroPage b
  | .incAbsolute w => .absolute w
  | .incAbsoluteX w => .absoluteX w
  | .incZeroPage b => .zeroPage b
  | .incZeroPageX b => .zeroPageX b
  | .decAbsolute w => .absolute w
  | .decAbsoluteX w => .absoluteX w
  | .decZeroPage b => .zeroPage b
  | .decZeroPageX b => .zeroPageX b
  | .inx => .implied
  | .dex => .implied
  | .iny => .implied
  | .dey => .implied
  | .bcc b => .relative b
  | .bcs b => .relative b
  | .beq b => .relative b
  | .bne b => .relative b
  | .bmi b => .relative b
  | .bpl b => .relative b
  | .bvc b => .relative b
  | .bvs b => .relative b
  | .jmpAbsolute w => .absolute w
  | .jmpIndirect w => .indirect w
  | .jsr w => .absolute w
  | .rts => .implied
  | .clc => .implied
  | .sec => .implied
  | .cld => .implied
  | .sed => .implied
  | .cli => .implied
  | .sei => .implied
  | .clv => .implied
  | .nop => .implied
  | .brk => .implied
  | .rti => .implied

/-- The addressing mode of an instruction (R63). -/
def Instr.mode (i : Instr) : Mode := i.operand.mode

/-- The length of an instruction in bytes: the opcode and the operand bytes of its mode (R60, R61). -/
def Instr.length (i : Instr) : Nat := 1 + i.mode.adv

end Sys2Proof
end

