-- ==== Sys2Proof/Machine/Operands.lean ====
section
/-! DEFINITION. The thirteen addressing modes (40_step_and_addressing.md R82 to R94, R101), the store helper (R102),
and the frame every instruction runs in (R80).

The operand bytes of an instruction are read by the fetch and stand in its `Operand`; a mode reads from there on, in the
state the fetch's reads leave (notes/assumptions/17.md). The byte at the effective address is read by every mode whose
value is `mem[ea]`, also for stores and jumps (R45, D5). -/

namespace Sys2Proof.Machine

/-- The addressing result `am` (R82). -/
structure Am where
  adv     : Word
  value   : Byte
  acc     : Bool
  ea      : Word
  crossed : Bool
  deriving DecidableEq, Repr

/-- The result of a mode whose value is the byte at the effective address. -/
def amAt (s : State) (adv : Word) (ea : Word) (crossed : Bool) : Am := ⟨adv, s.read ea, false, ea, crossed⟩

/-- "yes iff high byte changed" (R82). -/
def pageCrossed (ea base : Word) : Bool := hi ea != hi base

/-- Accumulator (R83). -/
def amAccumulator (s : State) : Am := ⟨0#16, s.a, true, 0#16, false⟩

/-- Implied (R84). -/
def amImplied : Am := ⟨0#16, 0#8, false, 0#16, false⟩

/-- Immediate: the operand byte, at `pc1`, is the value (R85). -/
def amImmediate (pc1 : Word) (b : Byte) : Am := ⟨1#16, b, false, pc1, false⟩

/-- Absolute (R86). -/
def amAbsolute (s : State) (w : Word) : Am := amAt s 2#16 w false

/-- AbsoluteX and AbsoluteY: the sum wraps at 0xFFFF (R87, R88). -/
def amAbsoluteIndexed (s : State) (w : Word) (index : Byte) : Am :=
  amAt s 2#16 (w + zext index) (pageCrossed (w + zext index) w)

/-- ZeroPage (R89). -/
def amZeroPage (s : State) (b : Byte) : Am := amAt s 1#16 (zext b) false

/-- ZeroPageX and ZeroPageY: the sum wraps in page zero (R90, R91). -/
def amZeroPageIndexed (s : State) (b : Byte) (index : Byte) : Am := amAt s 1#16 (zext (b + index)) false

/-- Where the high byte of a pointer lies: in the page of its low byte, `{hi(p), lo(p) +8 1}` (R92 to R94). -/
def pointerHigh (ptr : Word) : Word := word (hi ptr) (lo ptr + 1#8)

/-- The word at a pointer, low byte first (R92 to R94). -/
def readPointer (s : State) (ptr : Word) : Word := s.readPair ptr (pointerHigh ptr)

/-- The state after the two reads of a pointer. -/
def afterPointer (s : State) (ptr : Word) : State := s.afterReads [ptr, pointerHigh ptr]

/-- Indirect, with the page bug (R92). -/
def amIndirect (s : State) (w : Word) : Am := amAt (afterPointer s w) 2#16 (readPointer s w) false

/-- IndirectX: the pointer lies in page zero and wraps there (R93). -/
def amIndirectX (s : State) (b : Byte) : Am :=
  amAt (afterPointer s (zext (b + s.x))) 1#16 (readPointer s (zext (b + s.x))) false

/-- IndirectY: the pointer lies in page zero and wraps there (R94). -/
def amIndirectY (s : State) (b : Byte) : Am :=
  let base := readPointer s (zext b)
  amAt (afterPointer s (zext b)) 1#16 (base + zext s.y) (pageCrossed (base + zext s.y) base)

/-- Relative: the target is the next instruction's address plus the signed offset (R101). -/
def amRelative (pc1 : Word) (b : Byte) : Am :=
  let next := pc1 + 1#16
  ⟨1#16, b, false, next + sext b, pageCrossed (next + sext b) next⟩

/-- The addressing result of an operand; `pc1` is the address of the first operand byte (R82). -/
def addressing (s : State) (pc1 : Word) : Operand → Am
  | .accumulator => amAccumulator s
  | .implied => amImplied
  | .immediate b => amImmediate pc1 b
  | .absolute w => amAbsolute s w
  | .absoluteX w => amAbsoluteIndexed s w s.x
  | .absoluteY w => amAbsoluteIndexed s w s.y
  | .zeroPage b => amZeroPage s b
  | .zeroPageX b => amZeroPageIndexed s b s.x
  | .zeroPageY b => amZeroPageIndexed s b s.y
  | .indirect w => amIndirect s w
  | .indirectX b => amIndirectX s b
  | .indirectY b => amIndirectY s b
  | .relative b => amRelative pc1 b

/-- The addressing result of an instruction whose opcode is at PC. -/
def State.am (s : State) (o : Operand) : Am := addressing s (s.pc + 1#16) o

/-- The addresses a mode reads after the operand bytes, in order: the pointer, low byte first, then the byte at the
effective address, whatever the operation is (R82, 20_memory.md R51; decisions D4 and D5, notes/assumptions/11.md). -/
def State.modeReads (s : State) : Operand → List Word
  | .accumulator => []
  | .implied => []
  | .immediate _ => []
  | .absolute w => [w]
  | .absoluteX w => [(amAbsoluteIndexed s w s.x).ea]
  | .absoluteY w => [(amAbsoluteIndexed s w s.y).ea]
  | .zeroPage b => [zext b]
  | .zeroPageX b => [(amZeroPageIndexed s b s.x).ea]
  | .zeroPageY b => [(amZeroPageIndexed s b s.y).ea]
  | .indirect w => [w, pointerHigh w, (amIndirect s w).ea]
  | .indirectX b => [zext (b + s.x), pointerHigh (zext (b + s.x)), (amIndirectX s b).ea]
  | .indirectY b => [zext b, pointerHigh (zext b), (amIndirectY s b).ea]
  | .relative _ => []

/-- The state after a mode's reads. -/
def State.afterMode (s : State) (o : Operand) : State := s.afterReads (s.modeReads o)

/-- `store(am, v)`: to A or to memory at the effective address, once (R102). -/
def State.store (s : State) (am : Am) (v : Byte) : State := if am.acc then { s with a := v } else s.write am.ea v

/-- The frame of every instruction (R80), its opcode being at PC and its bytes fetched: the mode runs with
`pc1 = PC +16 1`, PC moves past the instruction, and the operation runs there. A legal instruction never stops
(60_exceptions.md R231). -/
def runOp (o : Operand) (op : Am → State → State) (s : State) : Result :=
  let am := s.am o
  .next (op am { s.afterMode o with pc := s.pc + 1#16 + am.adv })

end Sys2Proof.Machine
end

