-- ==== Sys2Proof/Machine/Arithmetic.lean ====
section
/-! DEFINITION. Add, subtract and compare (45_arithmetic_compare.md R160 to R171). -/

namespace Sys2Proof.Machine

/-- ADC: binary or packed BCD by the flag D (R160). -/
def opAdc (am : Am) (s : State) : State :=
  { s with a := (adcSum s.p s.a am.value).result, p := s.p.ofSum (adcSum s.p s.a am.value) }

/-- SBC: binary or packed BCD by the flag D (R163). -/
def opSbc (am : Am) (s : State) : State :=
  { s with a := (sbcSum s.p s.a am.value).result, p := s.p.ofSum (sbcSum s.p s.a am.value) }

/-- CMP: binary whatever D is; no register is written (R166). -/
def opCmp (am : Am) (s : State) : State := { s with p := s.p.compare s.a am.value }

/-- CPX (R167). -/
def opCpx (am : Am) (s : State) : State := { s with p := s.p.compare s.x am.value }

/-- CPY (R168). -/
def opCpy (am : Am) (s : State) : State := { s with p := s.p.compare s.y am.value }

/-- ADC Immediate, opcode 0x69 (R160, R85). -/
def execAdcImmediate (b : Byte) (s : State) : Result := runOp (.immediate b) opAdc s

/-- ADC Absolute, opcode 0x6D (R160, R86). -/
def execAdcAbsolute (w : Word) (s : State) : Result := runOp (.absolute w) opAdc s

/-- ADC AbsoluteX, opcode 0x7D (R160, R87). -/
def execAdcAbsoluteX (w : Word) (s : State) : Result := runOp (.absoluteX w) opAdc s

/-- ADC AbsoluteY, opcode 0x79 (R160, R88). -/
def execAdcAbsoluteY (w : Word) (s : State) : Result := runOp (.absoluteY w) opAdc s

/-- ADC ZeroPage, opcode 0x65 (R160, R89). -/
def execAdcZeroPage (b : Byte) (s : State) : Result := runOp (.zeroPage b) opAdc s

/-- ADC ZeroPageX, opcode 0x75 (R160, R90). -/
def execAdcZeroPageX (b : Byte) (s : State) : Result := runOp (.zeroPageX b) opAdc s

/-- ADC IndirectX, opcode 0x61 (R160, R93). -/
def execAdcIndirectX (b : Byte) (s : State) : Result := runOp (.indirectX b) opAdc s

/-- ADC IndirectY, opcode 0x71 (R160, R94). -/
def execAdcIndirectY (b : Byte) (s : State) : Result := runOp (.indirectY b) opAdc s

/-- SBC Immediate, opcode 0xE9 (R163, R85). -/
def execSbcImmediate (b : Byte) (s : State) : Result := runOp (.immediate b) opSbc s

/-- SBC Absolute, opcode 0xED (R163, R86). -/
def execSbcAbsolute (w : Word) (s : State) : Result := runOp (.absolute w) opSbc s

/-- SBC AbsoluteX, opcode 0xFD (R163, R87). -/
def execSbcAbsoluteX (w : Word) (s : State) : Result := runOp (.absoluteX w) opSbc s

/-- SBC AbsoluteY, opcode 0xF9 (R163, R88). -/
def execSbcAbsoluteY (w : Word) (s : State) : Result := runOp (.absoluteY w) opSbc s

/-- SBC ZeroPage, opcode 0xE5 (R163, R89). -/
def execSbcZeroPage (b : Byte) (s : State) : Result := runOp (.zeroPage b) opSbc s

/-- SBC ZeroPageX, opcode 0xF5 (R163, R90). -/
def execSbcZeroPageX (b : Byte) (s : State) : Result := runOp (.zeroPageX b) opSbc s

/-- SBC IndirectX, opcode 0xE1 (R163, R93). -/
def execSbcIndirectX (b : Byte) (s : State) : Result := runOp (.indirectX b) opSbc s

/-- SBC IndirectY, opcode 0xF1 (R163, R94). -/
def execSbcIndirectY (b : Byte) (s : State) : Result := runOp (.indirectY b) opSbc s

/-- CMP Immediate, opcode 0xC9 (R166, R85). -/
def execCmpImmediate (b : Byte) (s : State) : Result := runOp (.immediate b) opCmp s

/-- CMP Absolute, opcode 0xCD (R166, R86). -/
def execCmpAbsolute (w : Word) (s : State) : Result := runOp (.absolute w) opCmp s

/-- CMP AbsoluteX, opcode 0xDD (R166, R87). -/
def execCmpAbsoluteX (w : Word) (s : State) : Result := runOp (.absoluteX w) opCmp s

/-- CMP AbsoluteY, opcode 0xD9 (R166, R88). -/
def execCmpAbsoluteY (w : Word) (s : State) : Result := runOp (.absoluteY w) opCmp s

/-- CMP ZeroPage, opcode 0xC5 (R166, R89). -/
def execCmpZeroPage (b : Byte) (s : State) : Result := runOp (.zeroPage b) opCmp s

/-- CMP ZeroPageX, opcode 0xD5 (R166, R90). -/
def execCmpZeroPageX (b : Byte) (s : State) : Result := runOp (.zeroPageX b) opCmp s

/-- CMP IndirectX, opcode 0xC1 (R166, R93). -/
def execCmpIndirectX (b : Byte) (s : State) : Result := runOp (.indirectX b) opCmp s

/-- CMP IndirectY, opcode 0xD1 (R166, R94). -/
def execCmpIndirectY (b : Byte) (s : State) : Result := runOp (.indirectY b) opCmp s

/-- CPX Immediate, opcode 0xE0 (R167, R85). -/
def execCpxImmediate (b : Byte) (s : State) : Result := runOp (.immediate b) opCpx s

/-- CPX Absolute, opcode 0xEC (R167, R86). -/
def execCpxAbsolute (w : Word) (s : State) : Result := runOp (.absolute w) opCpx s

/-- CPX ZeroPage, opcode 0xE4 (R167, R89). -/
def execCpxZeroPage (b : Byte) (s : State) : Result := runOp (.zeroPage b) opCpx s

/-- CPY Immediate, opcode 0xC0 (R168, R85). -/
def execCpyImmediate (b : Byte) (s : State) : Result := runOp (.immediate b) opCpy s

/-- CPY Absolute, opcode 0xCC (R168, R86). -/
def execCpyAbsolute (w : Word) (s : State) : Result := runOp (.absolute w) opCpy s

/-- CPY ZeroPage, opcode 0xC4 (R168, R89). -/
def execCpyZeroPage (b : Byte) (s : State) : Result := runOp (.zeroPage b) opCpy s

end Sys2Proof.Machine
end

