-- ==== Sys2Proof/Machine/Control.lean ====
section
/-! DEFINITION. Branches, jumps, subroutine call and return (47_branch_jump.md R190 to R201). -/

namespace Sys2Proof.Machine

/-- The branch helper: PC goes to the target when the condition holds, else stays at the next instruction (R190). -/
def branch (cond : Flags → Bool) (am : Am) (s : State) : State := if cond s.p then { s with pc := am.ea } else s

/-- When BCC is taken (R190, R191). -/
def condBcc (p : Flags) : Bool := !p.c

/-- When BCS is taken (R190, R192). -/
def condBcs (p : Flags) : Bool := p.c

/-- When BEQ is taken (R190, R193). -/
def condBeq (p : Flags) : Bool := p.z

/-- When BNE is taken (R190, R194). -/
def condBne (p : Flags) : Bool := !p.z

/-- When BMI is taken (R190, R195). -/
def condBmi (p : Flags) : Bool := p.n

/-- When BPL is taken (R190, R196). -/
def condBpl (p : Flags) : Bool := !p.n

/-- When BVC is taken (R190, R197). -/
def condBvc (p : Flags) : Bool := !p.v

/-- When BVS is taken (R190, R198). -/
def condBvs (p : Flags) : Bool := p.v

/-- JMP (R199). -/
def opJmp (am : Am) (s : State) : State := { s with pc := am.ea }

/-- JSR: pushes the address of its own last byte (R200). -/
def opJsr (am : Am) (s : State) : State := { s.pushWord (s.pc - 1#16) with pc := am.ea }

/-- RTS: the pulled address plus one (R201). -/
def opRts (_ : Am) (s : State) : State := { s.popped.popped with pc := s.pulledWord + 1#16 }

/-- BCC Relative, opcode 0x90 (R191, R101). -/
def execBcc (b : Byte) (s : State) : Result := runOp (.relative b) (branch condBcc) s

/-- BCS Relative, opcode 0xB0 (R192, R101). -/
def execBcs (b : Byte) (s : State) : Result := runOp (.relative b) (branch condBcs) s

/-- BEQ Relative, opcode 0xF0 (R193, R101). -/
def execBeq (b : Byte) (s : State) : Result := runOp (.relative b) (branch condBeq) s

/-- BNE Relative, opcode 0xD0 (R194, R101). -/
def execBne (b : Byte) (s : State) : Result := runOp (.relative b) (branch condBne) s

/-- BMI Relative, opcode 0x30 (R195, R101). -/
def execBmi (b : Byte) (s : State) : Result := runOp (.relative b) (branch condBmi) s

/-- BPL Relative, opcode 0x10 (R196, R101). -/
def execBpl (b : Byte) (s : State) : Result := runOp (.relative b) (branch condBpl) s

/-- BVC Relative, opcode 0x50 (R197, R101). -/
def execBvc (b : Byte) (s : State) : Result := runOp (.relative b) (branch condBvc) s

/-- BVS Relative, opcode 0x70 (R198, R101). -/
def execBvs (b : Byte) (s : State) : Result := runOp (.relative b) (branch condBvs) s

/-- JMP Absolute, opcode 0x4C (R199, R86). -/
def execJmpAbsolute (w : Word) (s : State) : Result := runOp (.absolute w) opJmp s

/-- JMP Indirect, opcode 0x6C (R199, R92). -/
def execJmpIndirect (w : Word) (s : State) : Result := runOp (.indirect w) opJmp s

/-- JSR Absolute, opcode 0x20 (R200, R86). -/
def execJsr (w : Word) (s : State) : Result := runOp (.absolute w) opJsr s

/-- RTS Implied, opcode 0x60 (R201, R84). -/
def execRts (s : State) : Result := runOp .implied opRts s

end Sys2Proof.Machine
end

