-- ==== Sys2Proof/Machine/FlagOps.lean ====
section
/-! DEFINITION. Flag instructions and no-operation (48_flag_nop.md R210 to R217). -/

namespace Sys2Proof.Machine

/-- CLC (R210). -/
def opClc (_ : Am) (s : State) : State := { s with p := { s.p with c := false } }

/-- SEC (R211). -/
def opSec (_ : Am) (s : State) : State := { s with p := { s.p with c := true } }

/-- CLD (R212). -/
def opCld (_ : Am) (s : State) : State := { s with p := { s.p with d := false } }

/-- SED (R213). -/
def opSed (_ : Am) (s : State) : State := { s with p := { s.p with d := true } }

/-- CLI (R214). -/
def opCli (_ : Am) (s : State) : State := { s with p := { s.p with i := false } }

/-- SEI (R215). -/
def opSei (_ : Am) (s : State) : State := { s with p := { s.p with i := true } }

/-- CLV (R216). -/
def opClv (_ : Am) (s : State) : State := { s with p := { s.p with v := false } }

/-- NOP: nothing but the advance of PC (R217). -/
def opNop (_ : Am) (s : State) : State := s

/-- CLC Implied, opcode 0x18 (R210, R84). -/
def execClc (s : State) : Result := runOp .implied opClc s

/-- SEC Implied, opcode 0x38 (R211, R84). -/
def execSec (s : State) : Result := runOp .implied opSec s

/-- CLD Implied, opcode 0xD8 (R212, R84). -/
def execCld (s : State) : Result := runOp .implied opCld s

/-- SED Implied, opcode 0xF8 (R213, R84). -/
def execSed (s : State) : Result := runOp .implied opSed s

/-- CLI Implied, opcode 0x58 (R214, R84). -/
def execCli (s : State) : Result := runOp .implied opCli s

/-- SEI Implied, opcode 0x78 (R215, R84). -/
def execSei (s : State) : Result := runOp .implied opSei s

/-- CLV Implied, opcode 0xB8 (R216, R84). -/
def execClv (s : State) : Result := runOp .implied opClv s

/-- NOP Implied, opcode 0xEA (R217, R84). -/
def execNop (s : State) : Result := runOp .implied opNop s

end Sys2Proof.Machine
end

