-- ==== Sys2Proof/Machine/IncDec.lean ====
section
/-! DEFINITION. Increments and decrements (46_inc_dec.md R180 to R185). -/

namespace Sys2Proof.Machine

/-- INC: binary whatever D is; C and V stay (R180). -/
def opInc (am : Am) (s : State) : State :=
  { s.store am (am.value + 1#8) with p := s.p.setZN (am.value + 1#8) }

/-- DEC (R181). -/
def opDec (am : Am) (s : State) : State :=
  { s.store am (am.value - 1#8) with p := s.p.setZN (am.value - 1#8) }

/-- INX (R182). -/
def opInx (_ : Am) (s : State) : State := { s with x := s.x + 1#8, p := s.p.setZN (s.x + 1#8) }

/-- DEX (R183). -/
def opDex (_ : Am) (s : State) : State := { s with x := s.x - 1#8, p := s.p.setZN (s.x - 1#8) }

/-- INY (R184). -/
def opIny (_ : Am) (s : State) : State := { s with y := s.y + 1#8, p := s.p.setZN (s.y + 1#8) }

/-- DEY (R185). -/
def opDey (_ : Am) (s : State) : State := { s with y := s.y - 1#8, p := s.p.setZN (s.y - 1#8) }

/-- INC Absolute, opcode 0xEE (R180, R86). -/
def execIncAbsolute (w : Word) (s : State) : Result := runOp (.absolute w) opInc s

/-- INC AbsoluteX, opcode 0xFE (R180, R87). -/
def execIncAbsoluteX (w : Word) (s : State) : Result := runOp (.absoluteX w) opInc s

/-- INC ZeroPage, opcode 0xE6 (R180, R89). -/
def execIncZeroPage (b : Byte) (s : State) : Result := runOp (.zeroPage b) opInc s

/-- INC ZeroPageX, opcode 0xF6 (R180, R90). -/
def execIncZeroPageX (b : Byte) (s : State) : Result := runOp (.zeroPageX b) opInc s

/-- DEC Absolute, opcode 0xCE (R181, R86). -/
def execDecAbsolute (w : Word) (s : State) : Result := runOp (.absolute w) opDec s

/-- DEC AbsoluteX, opcode 0xDE (R181, R87). -/
def execDecAbsoluteX (w : Word) (s : State) : Result := runOp (.absoluteX w) opDec s

/-- DEC ZeroPage, opcode 0xC6 (R181, R89). -/
def execDecZeroPage (b : Byte) (s : State) : Result := runOp (.zeroPage b) opDec s

/-- DEC ZeroPageX, opcode 0xD6 (R181, R90). -/
def execDecZeroPageX (b : Byte) (s : State) : Result := runOp (.zeroPageX b) opDec s

/-- INX Implied, opcode 0xE8 (R182, R84). -/
def execInx (s : State) : Result := runOp .implied opInx s

/-- DEX Implied, opcode 0xCA (R183, R84). -/
def execDex (s : State) : Result := runOp .implied opDex s

/-- INY Implied, opcode 0xC8 (R184, R84). -/
def execIny (s : State) : Result := runOp .implied opIny s

/-- DEY Implied, opcode 0x88 (R185, R84). -/
def execDey (s : State) : Result := runOp .implied opDey s

end Sys2Proof.Machine
end

