-- ==== Sys2Proof/Machine/LoadStore.lean ====
section
/-! DEFINITION. Loads, stores and register transfers (41_load_store_transfer.md R110 to R121). -/

namespace Sys2Proof.Machine

/-- LDA: A and the flags Z, N from the operand (R110). -/
def opLda (am : Am) (s : State) : State := { s with a := am.value, p := s.p.setZN am.value }

/-- LDX (R111). -/
def opLdx (am : Am) (s : State) : State := { s with x := am.value, p := s.p.setZN am.value }

/-- LDY (R112). -/
def opLdy (am : Am) (s : State) : State := { s with y := am.value, p := s.p.setZN am.value }

/-- STA: no flag changes (R113). -/
def opSta (am : Am) (s : State) : State := s.write am.ea s.a

/-- STX (R114). -/
def opStx (am : Am) (s : State) : State := s.write am.ea s.x

/-- STY (R115). -/
def opSty (am : Am) (s : State) : State := s.write am.ea s.y

/-- TAX (R116). -/
def opTax (_ : Am) (s : State) : State := { s with x := s.a, p := s.p.setZN s.a }

/-- TAY (R117). -/
def opTay (_ : Am) (s : State) : State := { s with y := s.a, p := s.p.setZN s.a }

/-- TSX (R118). -/
def opTsx (_ : Am) (s : State) : State := { s with x := s.sp, p := s.p.setZN s.sp }

/-- TXA (R119). -/
def opTxa (_ : Am) (s : State) : State := { s with a := s.x, p := s.p.setZN s.x }

/-- TXS: "does **not** touch flags" (R120). -/
def opTxs (_ : Am) (s : State) : State := { s with sp := s.x }

/-- TYA (R121). -/
def opTya (_ : Am) (s : State) : State := { s with a := s.y, p := s.p.setZN s.y }

/-- LDA Immediate, opcode 0xA9 (R110, R85). -/
def execLdaImmediate (b : Byte) (s : State) : Result := runOp (.immediate b) opLda s

/-- LDA Absolute, opcode 0xAD (R110, R86). -/
def execLdaAbsolute (w : Word) (s : State) : Result := runOp (.absolute w) opLda s

/-- LDA AbsoluteX, opcode 0xBD (R110, R87). -/
def execLdaAbsoluteX (w : Word) (s : State) : Result := runOp (.absoluteX w) opLda s

/-- LDA AbsoluteY, opcode 0xB9 (R110, R88). -/
def execLdaAbsoluteY (w : Word) (s : State) : Result := runOp (.absoluteY w) opLda s

/-- LDA ZeroPage, opcode 0xA5 (R110, R89). -/
def execLdaZeroPage (b : Byte) (s : State) : Result := runOp (.zeroPage b) opLda s

/-- LDA ZeroPageX, opcode 0xB5 (R110, R90). -/
def execLdaZeroPageX (b : Byte) (s : State) : Result := runOp (.zeroPageX b) opLda s

/-- LDA IndirectX, opcode 0xA1 (R110, R93). -/
def execLdaIndirectX (b : Byte) (s : State) : Result := runOp (.indirectX b) opLda s

/-- LDA IndirectY, opcode 0xB1 (R110, R94). -/
def execLdaIndirectY (b : Byte) (s : State) : Result := runOp (.indirectY b) opLda s

/-- LDX Immediate, opcode 0xA2 (R111, R85). -/
def execLdxImmediate (b : Byte) (s : State) : Result := runOp (.immediate b) opLdx s

/-- LDX Absolute, opcode 0xAE (R111, R86). -/
def execLdxAbsolute (w : Word) (s : State) : Result := runOp (.absolute w) opLdx s

/-- LDX AbsoluteY, opcode 0xBE (R111, R88). -/
def execLdxAbsoluteY (w : Word) (s : State) : Result := runOp (.absoluteY w) opLdx s

/-- LDX ZeroPage, opcode 0xA6 (R111, R89). -/
def execLdxZeroPage (b : Byte) (s : State) : Result := runOp (.zeroPage b) opLdx s

/-- LDX ZeroPageY, opcode 0xB6 (R111, R91). -/
def execLdxZeroPageY (b : Byte) (s : State) : Result := runOp (.zeroPageY b) opLdx s

/-- LDY Immediate, opcode 0xA0 (R112, R85). -/
def execLdyImmediate (b : Byte) (s : State) : Result := runOp (.immediate b) opLdy s

/-- LDY Absolute, opcode 0xAC (R112, R86). -/
def execLdyAbsolute (w : Word) (s : State) : Result := runOp (.absolute w) opLdy s

/-- LDY AbsoluteX, opcode 0xBC (R112, R87). -/
def execLdyAbsoluteX (w : Word) (s : State) : Result := runOp (.absoluteX w) opLdy s

/-- LDY ZeroPage, opcode 0xA4 (R112, R89). -/
def execLdyZeroPage (b : Byte) (s : State) : Result := runOp (.zeroPage b) opLdy s

/-- LDY ZeroPageX, opcode 0xB4 (R112, R90). -/
def execLdyZeroPageX (b : Byte) (s : State) : Result := runOp (.zeroPageX b) opLdy s

/-- STA Absolute, opcode 0x8D (R113, R86). -/
def execStaAbsolute (w : Word) (s : State) : Result := runOp (.absolute w) opSta s

/-- STA AbsoluteX, opcode 0x9D (R113, R87). -/
def execStaAbsoluteX (w : Word) (s : State) : Result := runOp (.absoluteX w) opSta s

/-- STA AbsoluteY, opcode 0x99 (R113, R88). -/
def execStaAbsoluteY (w : Word) (s : State) : Result := runOp (.absoluteY w) opSta s

/-- STA ZeroPage, opcode 0x85 (R113, R89). -/
def execStaZeroPage (b : Byte) (s : State) : Result := runOp (.zeroPage b) opSta s

/-- STA ZeroPageX, opcode 0x95 (R113, R90). -/
def execStaZeroPageX (b : Byte) (s : State) : Result := runOp (.zeroPageX b) opSta s

/-- STA IndirectX, opcode 0x81 (R113, R93). -/
def execStaIndirectX (b : Byte) (s : State) : Result := runOp (.indirectX b) opSta s

/-- STA IndirectY, opcode 0x91 (R113, R94). -/
def execStaIndirectY (b : Byte) (s : State) : Result := runOp (.indirectY b) opSta s

/-- STX Absolute, opcode 0x8E (R114, R86). -/
def execStxAbsolute (w : Word) (s : State) : Result := runOp (.absolute w) opStx s

/-- STX ZeroPage, opcode 0x86 (R114, R89). -/
def execStxZeroPage (b : Byte) (s : State) : Result := runOp (.zeroPage b) opStx s

/-- STX ZeroPageY, opcode 0x96 (R114, R91). -/
def execStxZeroPageY (b : Byte) (s : State) : Result := runOp (.zeroPageY b) opStx s

/-- STY Absolute, opcode 0x8C (R115, R86). -/
def execStyAbsolute (w : Word) (s : State) : Result := runOp (.absolute w) opSty s

/-- STY ZeroPage, opcode 0x84 (R115, R89). -/
def execStyZeroPage (b : Byte) (s : State) : Result := runOp (.zeroPage b) opSty s

/-- STY ZeroPageX, opcode 0x94 (R115, R90). -/
def execStyZeroPageX (b : Byte) (s : State) : Result := runOp (.zeroPageX b) opSty s

/-- TAX Implied, opcode 0xAA (R116, R84). -/
def execTax (s : State) : Result := runOp .implied opTax s

/-- TAY Implied, opcode 0xA8 (R117, R84). -/
def execTay (s : State) : Result := runOp .implied opTay s

/-- TSX Implied, opcode 0xBA (R118, R84). -/
def execTsx (s : State) : Result := runOp .implied opTsx s

/-- TXA Implied, opcode 0x8A (R119, R84). -/
def execTxa (s : State) : Result := runOp .implied opTxa s

/-- TXS Implied, opcode 0x9A (R120, R84). -/
def execTxs (s : State) : Result := runOp .implied opTxs s

/-- TYA Implied, opcode 0x98 (R121, R84). -/
def execTya (s : State) : Result := runOp .implied opTya s

end Sys2Proof.Machine
end

