-- ==== Sys2Proof/Machine/Logical.lean ====
section
/-! DEFINITION. Logical instructions and the bit test (43_logical_bit.md R140 to R143). -/

namespace Sys2Proof.Machine

/-- A result byte into A, with Z and N of it. -/
def State.setA (s : State) (r : Byte) : State := { s with a := r, p := s.p.setZN r }

/-- AND (R140). -/
def opAnd (am : Am) (s : State) : State := s.setA (s.a &&& am.value)

/-- ORA (R141). -/
def opOra (am : Am) (s : State) : State := s.setA (s.a ||| am.value)

/-- EOR (R142). -/
def opEor (am : Am) (s : State) : State := s.setA (s.a ^^^ am.value)

/-- BIT: A is unchanged (R143). -/
def opBit (am : Am) (s : State) : State := { s with p := s.p.bitTest s.a am.value }

/-- AND Immediate, opcode 0x29 (R140, R85). -/
def execAndImmediate (b : Byte) (s : State) : Result := runOp (.immediate b) opAnd s

/-- AND Absolute, opcode 0x2D (R140, R86). -/
def execAndAbsolute (w : Word) (s : State) : Result := runOp (.absolute w) opAnd s

/-- AND AbsoluteX, opcode 0x3D (R140, R87). -/
def execAndAbsoluteX (w : Word) (s : State) : Result := runOp (.absoluteX w) opAnd s

/-- AND AbsoluteY, opcode 0x39 (R140, R88). -/
def execAndAbsoluteY (w : Word) (s : State) : Result := runOp (.absoluteY w) opAnd s

/-- AND ZeroPage, opcode 0x25 (R140, R89). -/
def execAndZeroPage (b : Byte) (s : State) : Result := runOp (.zeroPage b) opAnd s

/-- AND ZeroPageX, opcode 0x35 (R140, R90). -/
def execAndZeroPageX (b : Byte) (s : State) : Result := runOp (.zeroPageX b) opAnd s

/-- AND IndirectX, opcode 0x21 (R140, R93). -/
def execAndIndirectX (b : Byte) (s : State) : Result := runOp (.indirectX b) opAnd s

/-- AND IndirectY, opcode 0x31 (R140, R94). -/
def execAndIndirectY (b : Byte) (s : State) : Result := runOp (.indirectY b) opAnd s

/-- ORA Immediate, opcode 0x09 (R141, R85). -/
def execOraImmediate (b : Byte) (s : State) : Result := runOp (.immediate b) opOra s

/-- ORA Absolute, opcode 0x0D (R141, R86). -/
def execOraAbsolute (w : Word) (s : State) : Result := runOp (.absolute w) opOra s

/-- ORA AbsoluteX, opcode 0x1D (R141, R87). -/
def execOraAbsoluteX (w : Word) (s : State) : Result := runOp (.absoluteX w) opOra s

/-- ORA AbsoluteY, opcode 0x19 (R141, R88). -/
def execOraAbsoluteY (w : Word) (s : State) : Result := runOp (.absoluteY w) opOra s

/-- ORA ZeroPage, opcode 0x05 (R141, R89). -/
def execOraZeroPage (b : Byte) (s : State) : Result := runOp (.zeroPage b) opOra s

/-- ORA ZeroPageX, opcode 0x15 (R141, R90). -/
def execOraZeroPageX (b : Byte) (s : State) : Result := runOp (.zeroPageX b) opOra s

/-- ORA IndirectX, opcode 0x01 (R141, R93). -/
def execOraIndirectX (b : Byte) (s : State) : Result := runOp (.indirectX b) opOra s

/-- ORA IndirectY, opcode 0x11 (R141, R94). -/
def execOraIndirectY (b : Byte) (s : State) : Result := runOp (.indirectY b) opOra s

/-- EOR Immediate, opcode 0x49 (R142, R85). -/
def execEorImmediate (b : Byte) (s : State) : Result := runOp (.immediate b) opEor s

/-- EOR Absolute, opcode 0x4D (R142, R86). -/
def execEorAbsolute (w : Word) (s : State) : Result := runOp (.absolute w) opEor s

/-- EOR AbsoluteX, opcode 0x5D (R142, R87). -/
def execEorAbsoluteX (w : Word) (s : State) : Result := runOp (.absoluteX w) opEor s

/-- EOR AbsoluteY, opcode 0x59 (R142, R88). -/
def execEorAbsoluteY (w : Word) (s : State) : Result := runOp (.absoluteY w) opEor s

/-- EOR ZeroPage, opcode 0x45 (R142, R89). -/
def execEorZeroPage (b : Byte) (s : State) : Result := runOp (.zeroPage b) opEor s

/-- EOR ZeroPageX, opcode 0x55 (R142, R90). -/
def execEorZeroPageX (b : Byte) (s : State) : Result := runOp (.zeroPageX b) opEor s

/-- EOR IndirectX, opcode 0x41 (R142, R93). -/
def execEorIndirectX (b : Byte) (s : State) : Result := runOp (.indirectX b) opEor s

/-- EOR IndirectY, opcode 0x51 (R142, R94). -/
def execEorIndirectY (b : Byte) (s : State) : Result := runOp (.indirectY b) opEor s

/-- BIT Absolute, opcode 0x2C (R143, R86). -/
def execBitAbsolute (w : Word) (s : State) : Result := runOp (.absolute w) opBit s

/-- BIT ZeroPage, opcode 0x24 (R143, R89). -/
def execBitZeroPage (b : Byte) (s : State) : Result := runOp (.zeroPage b) opBit s

end Sys2Proof.Machine
end

