-- ==== Sys2Proof/Machine/Shift.lean ====
section
/-! DEFINITION. Shifts and rotates (44_shift_rotate.md R150 to R153). -/

namespace Sys2Proof.Machine

/-- A shifted operand back to where it came from, with its flags: the byte through the store helper (R102), C from the
bit that left, Z and N from the result. -/
def State.storeShifted (s : State) (am : Am) (r : Shifted) : State :=
  { s.store am r.result with p := s.p.ofShift r }

/-- ASL (R150). -/
def opAsl (am : Am) (s : State) : State := s.storeShifted am (aslByte am.value)

/-- LSR (R151). -/
def opLsr (am : Am) (s : State) : State := s.storeShifted am (lsrByte am.value)

/-- ROL: the old C comes in at bit 0 (R152). -/
def opRol (am : Am) (s : State) : State := s.storeShifted am (rolByte am.value s.p.c)

/-- ROR: the old C comes in at bit 7 (R153). -/
def opRor (am : Am) (s : State) : State := s.storeShifted am (rorByte am.value s.p.c)

/-- ASL Accumulator, opcode 0x0A (R150, R83). -/
def execAslAccumulator (s : State) : Result := runOp .accumulator opAsl s

/-- ASL Absolute, opcode 0x0E (R150, R86). -/
def execAslAbsolute (w : Word) (s : State) : Result := runOp (.absolute w) opAsl s

/-- ASL AbsoluteX, opcode 0x1E (R150, R87). -/
def execAslAbsoluteX (w : Word) (s : State) : Result := runOp (.absoluteX w) opAsl s

/-- ASL ZeroPage, opcode 0x06 (R150, R89). -/
def execAslZeroPage (b : Byte) (s : State) : Result := runOp (.zeroPage b) opAsl s

/-- ASL ZeroPageX, opcode 0x16 (R150, R90). -/
def execAslZeroPageX (b : Byte) (s : State) : Result := runOp (.zeroPageX b) opAsl s

/-- LSR Accumulator, opcode 0x4A (R151, R83). -/
def execLsrAccumulator (s : State) : Result := runOp .accumulator opLsr s

/-- LSR Absolute, opcode 0x4E (R151, R86). -/
def execLsrAbsolute (w : Word) (s : State) : Result := runOp (.absolute w) opLsr s

/-- LSR AbsoluteX, opcode 0x5E (R151, R87). -/
def execLsrAbsoluteX (w : Word) (s : State) : Result := runOp (.absoluteX w) opLsr s

/-- LSR ZeroPage, opcode 0x46 (R151, R89). -/
def execLsrZeroPage (b : Byte) (s : State) : Result := runOp (.zeroPage b) opLsr s

/-- LSR ZeroPageX, opcode 0x56 (R151, R90). -/
def execLsrZeroPageX (b : Byte) (s : State) : Result := runOp (.zeroPageX b) opLsr s

/-- ROL Accumulator, opcode 0x2A (R152, R83). -/
def execRolAccumulator (s : State) : Result := runOp .accumulator opRol s

/-- ROL Absolute, opcode 0x2E (R152, R86). -/
def execRolAbsolute (w : Word) (s : State) : Result := runOp (.absolute w) opRol s

/-- ROL AbsoluteX, opcode 0x3E (R152, R87). -/
def execRolAbsoluteX (w : Word) (s : State) : Result := runOp (.absoluteX w) opRol s

/-- ROL ZeroPage, opcode 0x26 (R152, R89). -/
def execRolZeroPage (b : Byte) (s : State) : Result := runOp (.zeroPage b) opRol s

/-- ROL ZeroPageX, opcode 0x36 (R152, R90). -/
def execRolZeroPageX (b : Byte) (s : State) : Result := runOp (.zeroPageX b) opRol s

/-- ROR Accumulator, opcode 0x6A (R153, R83). -/
def execRorAccumulator (s : State) : Result := runOp .accumulator opRor s

/-- ROR Absolute, opcode 0x6E (R153, R86). -/
def execRorAbsolute (w : Word) (s : State) : Result := runOp (.absolute w) opRor s

/-- ROR AbsoluteX, opcode 0x7E (R153, R87). -/
def execRorAbsoluteX (w : Word) (s : State) : Result := runOp (.absoluteX w) opRor s

/-- ROR ZeroPage, opcode 0x66 (R153, R89). -/
def execRorZeroPage (b : Byte) (s : State) : Result := runOp (.zeroPage b) opRor s

/-- ROR ZeroPageX, opcode 0x76 (R153, R90). -/
def execRorZeroPageX (b : Byte) (s : State) : Result := runOp (.zeroPageX b) opRor s

end Sys2Proof.Machine
end

