-- ==== Sys2Proof/Machine/Stack.lean ====
section
/-! DEFINITION. Stack instructions (42_stack.md R130 to R133). -/

namespace Sys2Proof.Machine

/-- PHA (R130). -/
def opPha (_ : Am) (s : State) : State := s.pushByte s.a

/-- PHP: the status with B and Constant set (R131). -/
def opPhp (_ : Am) (s : State) : State := s.pushStatus true

/-- PLA (R132). -/
def opPla (_ : Am) (s : State) : State := { s.popped with a := s.pulledByte, p := s.p.setZN s.pulledByte }

/-- PLP (R133). -/
def opPlp (_ : Am) (s : State) : State := s.pullStatus

/-- PHA Implied, opcode 0x48 (R130, R84). -/
def execPha (s : State) : Result := runOp .implied opPha s

/-- PHP Implied, opcode 0x08 (R131, R84). -/
def execPhp (s : State) : Result := runOp .implied opPhp s

/-- PLA Implied, opcode 0x68 (R132, R84). -/
def execPla (s : State) : Result := runOp .implied opPla s

/-- PLP Implied, opcode 0x28 (R133, R84). -/
def execPlp (s : State) : Result := runOp .implied opPlp s

end Sys2Proof.Machine
end

