-- ==== Sys2Proof/Machine/System.lean ====
section
/-! DEFINITION. Software interrupt and return from interrupt (49_brk_rti.md R220 to R222). -/

namespace Sys2Proof.Machine

/-- BRK: the return address skips the padding byte, B is set in the pushed status, the vector is IRQ's (R221). -/
def opBrk (_ : Am) (s : State) : State := s.interrupt (s.pc + 1#16) true Config.irqVector

/-- RTI (R222). -/
def opRti (_ : Am) (s : State) : State := s.returnFromInterrupt

/-- BRK Implied, opcode 0x00 (R221, R84). -/
def execBrk (s : State) : Result := runOp .implied opBrk s

/-- RTI Implied, opcode 0x40 (R222, R84). -/
def execRti (s : State) : Result := runOp .implied opRti s

end Sys2Proof.Machine
end

