-- ==== Sys2Proof/Machine/Dispatch.lean ====
section
/-! DEFINITION. Which meaning each instruction has. -/

namespace Sys2Proof.Machine

def exec (i : Instr) (s : State) : Host.Outcome State Fault Refusal :=
  match i with
  -- LoadStore
  | .ldaImmediate b => Sys2Proof.Machine.execLdaImmediate b s
  | .ldaAbsolute w => Sys2Proof.Machine.execLdaAbsolute w s
  | .ldaAbsoluteX w => Sys2Proof.Machine.execLdaAbsoluteX w s
  | .ldaAbsoluteY w => Sys2Proof.Machine.execLdaAbsoluteY w s
  | .ldaZeroPage b => Sys2Proof.Machine.execLdaZeroPage b s
  | .ldaZeroPageX b => Sys2Proof.Machine.execLdaZeroPageX b s
  | .ldaIndirectX b => Sys2Proof.Machine.execLdaIndirectX b s
  | .ldaIndirectY b => Sys2Proof.Machine.execLdaIndirectY b s
  | .ldxImmediate b => Sys2Proof.Machine.execLdxImmediate b s
  | .ldxAbsolute w => Sys2Proof.Machine.execLdxAbsolute w s
  | .ldxAbsoluteY w => Sys2Proof.Machine.execLdxAbsoluteY w s
  | .ldxZeroPage b => Sys2Proof.Machine.execLdxZeroPage b s
  | .ldxZeroPageY b => Sys2Proof.Machine.execLdxZeroPageY b s
  | .ldyImmediate b => Sys2Proof.Machine.execLdyImmediate b s
  | .ldyAbsolute w => Sys2Proof.Machine.execLdyAbsolute w s
  | .ldyAbsoluteX w => Sys2Proof.Machine.execLdyAbsoluteX w s
  | .ldyZeroPage b => Sys2Proof.Machine.execLdyZeroPage b s
  | .ldyZeroPageX b => Sys2Proof.Machine.execLdyZeroPageX b s
  | .staAbsolute w => Sys2Proof.Machine.execStaAbsolute w s
  | .staAbsoluteX w => Sys2Proof.Machine.execStaAbsoluteX w s
  | .staAbsoluteY w => Sys2Proof.Machine.execStaAbsoluteY w s
  | .staZeroPage b => Sys2Proof.Machine.execStaZeroPage b s
  | .staZeroPageX b => Sys2Proof.Machine.execStaZeroPageX b s
  | .staIndirectX b => Sys2Proof.Machine.execStaIndirectX b s
  | .staIndirectY b => Sys2Proof.Machine.execStaIndirectY b s
  | .stxAbsolute w => Sys2Proof.Machine.execStxAbsolute w s
  | .stxZeroPage b => Sys2Proof.Machine.execStxZeroPage b s
  | .stxZeroPageY b => Sys2Proof.Machine.execStxZeroPageY b s
  | .styAbsolute w => Sys2Proof.Machine.execStyAbsolute w s
  | .styZeroPage b => Sys2Proof.Machine.execStyZeroPage b s
  | .styZeroPageX b => Sys2Proof.Machine.execStyZeroPageX b s
  | .tax => Sys2Proof.Machine.execTax s
  | .tay => Sys2Proof.Machine.execTay s
  | .tsx => Sys2Proof.Machine.execTsx s
  | .txa => Sys2Proof.Machine.execTxa s
  | .txs => Sys2Proof.Machine.execTxs s
  | .tya => Sys2Proof.Machine.execTya s
  -- Stack
  | .pha => Sys2Proof.Machine.execPha s
  | .php => Sys2Proof.Machine.execPhp s
  | .pla => Sys2Proof.Machine.execPla s
  | .plp => Sys2Proof.Machine.execPlp s
  -- Logical
  | .andImmediate b => Sys2Proof.Machine.execAndImmediate b s
  | .andAbsolute w => Sys2Proof.Machine.execAndAbsolute w s
  | .andAbsoluteX w => Sys2Proof.Machine.execAndAbsoluteX w s
  | .andAbsoluteY w => Sys2Proof.Machine.execAndAbsoluteY w s
  | .andZeroPage b => Sys2Proof.Machine.execAndZeroPage b s
  | .andZeroPageX b => Sys2Proof.Machine.execAndZeroPageX b s
  | .andIndirectX b => Sys2Proof.Machine.execAndIndirectX b s
  | .andIndirectY b => Sys2Proof.Machine.execAndIndirectY b s
  | .oraImmediate b => Sys2Proof.Machine.execOraImmediate b s
  | .oraAbsolute w => Sys2Proof.Machine.execOraAbsolute w s
  | .oraAbsoluteX w => Sys2Proof.Machine.execOraAbsoluteX w s
  | .oraAbsoluteY w => Sys2Proof.Machine.execOraAbsoluteY w s
  | .oraZeroPage b => Sys2Proof.Machine.execOraZeroPage b s
  | .oraZeroPageX b => Sys2Proof.Machine.execOraZeroPageX b s
  | .oraIndirectX b => Sys2Proof.Machine.execOraIndirectX b s
  | .oraIndirectY b => Sys2Proof.Machine.execOraIndirectY b s
  | .eorImmediate b => Sys2Proof.Machine.execEorImmediate b s
  | .eorAbsolute w => Sys2Proof.Machine.execEorAbsolute w s
  | .eorAbsoluteX w => Sys2Proof.Machine.execEorAbsoluteX w s
  | .eorAbsoluteY w => Sys2Proof.Machine.execEorAbsoluteY w s
  | .eorZeroPage b => Sys2Proof.Machine.execEorZeroPage b s
  | .eorZeroPageX b => Sys2Proof.Machine.execEorZeroPageX b s
  | .eorIndirectX b => Sys2Proof.Machine.execEorIndirectX b s
  | .eorIndirectY b => Sys2Proof.Machine.execEorIndirectY b s
  | .bitAbsolute w => Sys2Proof.Machine.execBitAbsolute w s
  | .bitZeroPage b => Sys2Proof.Machine.execBitZeroPage b s
  -- Shift
  | .aslAccumulator => Sys2Proof.Machine.execAslAccumulator s
  | .aslAbsolute w => Sys2Proof.Machine.execAslAbsolute w s
  | .aslAbsoluteX w => Sys2Proof.Machine.execAslAbsoluteX w s
  | .aslZeroPage b => Sys2Proof.Machine.execAslZeroPage b s
  | .aslZeroPageX b => Sys2Proof.Machine.execAslZeroPageX b s
  | .lsrAccumulator => Sys2Proof.Machine.execLsrAccumulator s
  | .lsrAbsolute w => Sys2Proof.Machine.execLsrAbsolute w s
  | .lsrAbsoluteX w => Sys2Proof.Machine.execLsrAbsoluteX w s
  | .lsrZeroPage b => Sys2Proof.Machine.execLsrZeroPage b s
  | .lsrZeroPageX b => Sys2Proof.Machine.execLsrZeroPageX b s
  | .rolAccumulator => Sys2Proof.Machine.execRolAccumulator s
  | .rolAbsolute w => Sys2Proof.Machine.execRolAbsolute w s
  | .rolAbsoluteX w => Sys2Proof.Machine.execRolAbsoluteX w s
  | .rolZeroPage b => Sys2Proof.Machine.execRolZeroPage b s
  | .rolZeroPageX b => Sys2Proof.Machine.execRolZeroPageX b s
  | .rorAccumulator => Sys2Proof.Machine.execRorAccumulator s
  | .rorAbsolute w => Sys2Proof.Machine.execRorAbsolute w s
  | .rorAbsoluteX w => Sys2Proof.Machine.execRorAbsoluteX w s
  | .rorZeroPage b => Sys2Proof.Machine.execRorZeroPage b s
  | .rorZeroPageX b => Sys2Proof.Machine.execRorZeroPageX b s
  -- Arithmetic
  | .adcImmediate b => Sys2Proof.Machine.execAdcImmediate b s
  | .adcAbsolute w => Sys2Proof.Machine.execAdcAbsolute w s
  | .adcAbsoluteX w => Sys2Proof.Machine.execAdcAbsoluteX w s
  | .adcAbsoluteY w => Sys2Proof.Machine.execAdcAbsoluteY w s
  | .adcZeroPage b => Sys2Proof.Machine.execAdcZeroPage b s
  | .adcZeroPageX b => Sys2Proof.Machine.execAdcZeroPageX b s
  | .adcIndirectX b => Sys2Proof.Machine.execAdcIndirectX b s
  | .adcIndirectY b => Sys2Proof.Machine.execAdcIndirectY b s
  | .sbcImmediate b => Sys2Proof.Machine.execSbcImmediate b s
  | .sbcAbsolute w => Sys2Proof.Machine.execSbcAbsolute w s
  | .sbcAbsoluteX w => Sys2Proof.Machine.execSbcAbsoluteX w s
  | .sbcAbsoluteY w => Sys2Proof.Machine.execSbcAbsoluteY w s
  | .sbcZeroPage b => Sys2Proof.Machine.execSbcZeroPage b s
  | .sbcZeroPageX b => Sys2Proof.Machine.execSbcZeroPageX b s
  | .sbcIndirectX b => Sys2Proof.Machine.execSbcIndirectX b s
  | .sbcIndirectY b => Sys2Proof.Machine.execSbcIndirectY b s
  | .cmpImmediate b => Sys2Proof.Machine.execCmpImmediate b s
  | .cmpAbsolute w => Sys2Proof.Machine.execCmpAbsolute w s
  | .cmpAbsoluteX w => Sys2Proof.Machine.execCmpAbsoluteX w s
  | .cmpAbsoluteY w => Sys2Proof.Machine.execCmpAbsoluteY w s
  | .cmpZeroPage b => Sys2Proof.Machine.execCmpZeroPage b s
  | .cmpZeroPageX b => Sys2Proof.Machine.execCmpZeroPageX b s
  | .cmpIndirectX b => Sys2Proof.Machine.execCmpIndirectX b s
  | .cmpIndirectY b => Sys2Proof.Machine.execCmpIndirectY b s
  | .cpxImmediate b => Sys2Proof.Machine.execCpxImmediate b s
  | .cpxAbsolute w => Sys2Proof.Machine.execCpxAbsolute w s
  | .cpxZeroPage b => Sys2Proof.Machine.execCpxZeroPage b s
  | .cpyImmediate b => Sys2Proof.Machine.execCpyImmediate b s
  | .cpyAbsolute w => Sys2Proof.Machine.execCpyAbsolute w s
  | .cpyZeroPage b => Sys2Proof.Machine.execCpyZeroPage b s
  -- IncDec
  | .incAbsolute w => Sys2Proof.Machine.execIncAbsolute w s
  | .incAbsoluteX w => Sys2Proof.Machine.execIncAbsoluteX w s
  | .incZeroPage b => Sys2Proof.Machine.execIncZeroPage b s
  | .incZeroPageX b => Sys2Proof.Machine.execIncZeroPageX b s
  | .decAbsolute w => Sys2Proof.Machine.execDecAbsolute w s
  | .decAbsoluteX w => Sys2Proof.Machine.execDecAbsoluteX w s
  | .decZeroPage b => Sys2Proof.Machine.execDecZeroPage b s
  | .decZeroPageX b => Sys2Proof.Machine.execDecZeroPageX b s
  | .inx => Sys2Proof.Machine.execInx s
  | .dex => Sys2Proof.Machine.execDex s
  | .iny => Sys2Proof.Machine.execIny s
  | .dey => Sys2Proof.Machine.execDey s
  -- Control
  | .bcc b => Sys2Proof.Machine.execBcc b s
  | .bcs b => Sys2Proof.Machine.execBcs b s
  | .beq b => Sys2Proof.Machine.execBeq b s
  | .bne b => Sys2Proof.Machine.execBne b s
  | .bmi b => Sys2Proof.Machine.execBmi b s
  | .bpl b => Sys2Proof.Machine.execBpl b s
  | .bvc b => Sys2Proof.Machine.execBvc b s
  | .bvs b => Sys2Proof.Machine.execBvs b s
  | .jmpAbsolute w => Sys2Proof.Machine.execJmpAbsolute w s
  | .jmpIndirect w => Sys2Proof.Machine.execJmpIndirect w s
  | .jsr w => Sys2Proof.Machine.execJsr w s
  | .rts => Sys2Proof.Machine.execRts s
  -- FlagOps
  | .clc => Sys2Proof.Machine.execClc s
  | .sec => Sys2Proof.Machine.execSec s
  | .cld => Sys2Proof.Machine.execCld s
  | .sed => Sys2Proof.Machine.execSed s
  | .cli => Sys2Proof.Machine.execCli s
  | .sei => Sys2Proof.Machine.execSei s
  | .clv => Sys2Proof.Machine.execClv s
  | .nop => Sys2Proof.Machine.execNop s
  -- System
  | .brk => Sys2Proof.Machine.execBrk s
  | .rti => Sys2Proof.Machine.execRti s

end Sys2Proof.Machine
end

