-- ==== Sys2Proof/WellFormed.lean ====
section
/-! DEFINITION. What a well-formed instruction is (30_encoding.md R61, R63; the *Operands* lines of files 41 to 49).

`Instr` has a constructor for each legal (mnemonic, mode) pair and exact-width operands, so no ill-formed `Instr` can
be built. The check that can fail is the one on an instruction as it is WRITTEN: a mnemonic, a mode and operand bytes
(`Written`). A written instruction is well formed when its mnemonic has the mode and it has as many operand bytes as
the mode consumes. An `Instr` is well formed when its own written form is. -/

namespace Sys2Proof

/-- The addressing modes each mnemonic has (R63 and the *Operands* line of each instruction's rule). -/
def Mnemonic.modes : Mnemonic → List Mode
  | .lda => [.immediate, .absolute, .absoluteX, .absoluteY, .zeroPage, .zeroPageX, .indirectX, .indirectY]
  | .ldx => [.immediate, .absolute, .absoluteY, .zeroPage, .zeroPageY]
  | .ldy => [.immediate, .absolute, .absoluteX, .zeroPage, .zeroPageX]
  | .sta => [.absolute, .absoluteX, .absoluteY, .zeroPage, .zeroPageX, .indirectX, .indirectY]
  | .stx => [.absolute, .zeroPage, .zeroPageY]
  | .sty => [.absolute, .zeroPage, .zeroPageX]
  | .tax => [.implied]
  | .tay => [.implied]
  | .tsx => [.implied]
  | .txa => [.implied]
  | .txs => [.implied]
  | .tya => [.implied]
  | .pha => [.implied]
  | .php => [.implied]
  | .pla => [.implied]
  | .plp => [.implied]
  | .and => [.immediate, .absolute, .absoluteX, .absoluteY, .zeroPage, .zeroPageX, .indirectX, .indirectY]
  | .ora => [.immediate, .absolute, .absoluteX, .absoluteY, .zeroPage, .zeroPageX, .indirectX, .indirectY]
  | .eor => [.immediate, .absolute, .absoluteX, .absoluteY, .zeroPage, .zeroPageX, .indirectX, .indirectY]
  | .bit => [.absolute, .zeroPage]
  | .asl => [.accumulator, .absolute, .absoluteX, .zeroPage, .zeroPageX]
  | .lsr => [.accumulator, .absolute, .absoluteX, .zeroPage, .zeroPageX]
  | .rol => [.accumulator, .absolute, .absoluteX, .zeroPage, .zeroPageX]
  | .ror => [.accumulator, .absolute, .absoluteX, .zeroPage, .zeroPageX]
  | .adc => [.immediate, .absolute, .absoluteX, .absoluteY, .zeroPage, .zeroPageX, .indirectX, .indirectY]
  | .sbc => [.immediate, .absolute, .absoluteX, .absoluteY, .zeroPage, .zeroPageX, .indirectX, .indirectY]
  | .cmp => [.immediate, .absolute, .absoluteX, .absoluteY, .zeroPage, .zeroPageX, .indirectX, .indirectY]
  | .cpx => [.immediate, .absolute, .zeroPage]
  | .cpy => [.immediate, .absolute, .zeroPage]
  | .inc => [.absolute, .absoluteX, .zeroPage, .zeroPageX]
  | .dec => [.absolute, .absoluteX, .zeroPage, .zeroPageX]
  | .inx => [.implied]
  | .dex => [.implied]
  | .iny => [.implied]
  | .dey => [.implied]
  | .bcc => [.relative]
  | .bcs => [.relative]
  | .beq => [.relative]
  | .bne => [.relative]
  | .bmi => [.relative]
  | .bpl => [.relative]
  | .bvc => [.relative]
  | .bvs => [.relative]
  | .jmp => [.absolute, .indirect]
  | .jsr => [.absolute]
  | .rts => [.implied]
  | .clc => [.implied]
  | .sec => [.implied]
  | .cld => [.implied]
  | .sed => [.implied]
  | .cli => [.implied]
  | .sei => [.implied]
  | .clv => [.implied]
  | .nop => [.implied]
  | .brk => [.implied]
  | .rti => [.implied]

/-- An instruction as it is written: a mnemonic, an addressing mode and the operand bytes, low byte first. -/
structure Written where
  mnemonic : Mnemonic
  mode     : Mode
  bytes    : List Byte
  deriving DecidableEq, Repr

/-- The mnemonic has this addressing mode (R63: "There is no Immediate form" of STA, for one). -/
def Written.hasMode (t : Written) : Bool := t.mnemonic.modes.contains t.mode

/-- As many operand bytes as the mode consumes (R61). -/
def Written.hasLength (t : Written) : Bool := t.bytes.length == t.mode.adv

/-- The check of a written instruction. -/
def Written.wellFormed (t : Written) : Bool := t.hasMode && t.hasLength

/-- The written form of an instruction. -/
def Instr.written (i : Instr) : Written := ⟨i.mnemonic, i.mode, i.operand.bytes⟩

/-- An instruction is well formed when its written form is. -/
def Instr.wellFormed (i : Instr) : Bool := i.written.wellFormed

end Sys2Proof
end

