-- ==== Sys2Proof/Decode.lean ====
section
/-! DEFINITION. The decoder, total on any bytes, and the encoder, both written from the opcode map of 30_encoding.md
R63 (R60 to R65). The map and its cycle counts are the spec's "general knowledge, not in source"
(notes/assumptions/6.md, 7.md). -/

namespace Sys2Proof

/-- A row of the opcode map: the opcode, what it selects, the base cycle count (R68) and whether a page crossing adds
one (R69). -/
structure Row where
  opcode   : Byte
  mnemonic : Mnemonic
  mode     : Mode
  cycles   : Nat
  penalty  : Bool
  deriving DecidableEq, Repr

/-- The legal opcodes 0x00 to 0x0F (R63). -/
def rows0 : List Row := [
  ⟨0x00#8, .brk, .implied, 7, false⟩,
  ⟨0x01#8, .ora, .indirectX, 6, false⟩,
  ⟨0x05#8, .ora, .zeroPage, 3, false⟩,
  ⟨0x06#8, .asl, .zeroPage, 5, false⟩,
  ⟨0x08#8, .php, .implied, 3, false⟩,
  ⟨0x09#8, .ora, .immediate, 2, false⟩,
  ⟨0x0A#8, .asl, .accumulator, 2, false⟩,
  ⟨0x0D#8, .ora, .absolute, 4, false⟩,
  ⟨0x0E#8, .asl, .absolute, 6, false⟩]

/-- The legal opcodes 0x10 to 0x1F (R63). -/
def rows1 : List Row := [
  ⟨0x10#8, .bpl, .relative, 2, false⟩,
  ⟨0x11#8, .ora, .indirectY, 5, true⟩,
  ⟨0x15#8, .ora, .zeroPageX, 4, false⟩,
  ⟨0x16#8, .asl, .zeroPageX, 6, false⟩,
  ⟨0x18#8, .clc, .implied, 2, false⟩,
  ⟨0x19#8, .ora, .absoluteY, 4, true⟩,
  ⟨0x1D#8, .ora, .absoluteX, 4, true⟩,
  ⟨0x1E#8, .asl, .absoluteX, 7, false⟩]

/-- The legal opcodes 0x20 to 0x2F (R63). -/
def rows2 : List Row := [
  ⟨0x20#8, .jsr, .absolute, 6, false⟩,
  ⟨0x21#8, .and, .indirectX, 6, false⟩,
  ⟨0x24#8, .bit, .zeroPage, 3, false⟩,
  ⟨0x25#8, .and, .zeroPage, 3, false⟩,
  ⟨0x26#8, .rol, .zeroPage, 5, false⟩,
  ⟨0x28#8, .plp, .implied, 4, false⟩,
  ⟨0x29#8, .and, .immediate, 2, false⟩,
  ⟨0x2A#8, .rol, .accumulator, 2, false⟩,
  ⟨0x2C#8, .bit, .absolute, 4, false⟩,
  ⟨0x2D#8, .and, .absolute, 4, false⟩,
  ⟨0x2E#8, .rol, .absolute, 6, false⟩]

/-- The legal opcodes 0x30 to 0x3F (R63). -/
def rows3 : List Row := [
  ⟨0x30#8, .bmi, .relative, 2, false⟩,
  ⟨0x31#8, .and, .indirectY, 5, true⟩,
  ⟨0x35#8, .and, .zeroPageX, 4, false⟩,
  ⟨0x36#8, .rol, .zeroPageX, 6, false⟩,
  ⟨0x38#8, .sec, .implied, 2, false⟩,
  ⟨0x39#8, .and, .absoluteY, 4, true⟩,
  ⟨0x3D#8, .and, .absoluteX, 4, true⟩,
  ⟨0x3E#8, .rol, .absoluteX, 7, false⟩]

/-- The legal opcodes 0x40 to 0x4F (R63). -/
def rows4 : List Row := [
  ⟨0x40#8, .rti, .implied, 6, false⟩,
  ⟨0x41#8, .eor, .indirectX, 6, false⟩,
  ⟨0x45#8, .eor, .zeroPage, 3, false⟩,
  ⟨0x46#8, .lsr, .zeroPage, 5, false⟩,
  ⟨0x48#8, .pha, .implied, 3, false⟩,
  ⟨0x49#8, .eor, .immediate, 2, false⟩,
  ⟨0x4A#8, .lsr, .accumulator, 2, false⟩,
  ⟨0x4C#8, .jmp, .absolute, 3, false⟩,
  ⟨0x4D#8, .eor, .absolute, 4, false⟩,
  ⟨0x4E#8, .lsr, .absolute, 6, false⟩]

/-- The legal opcodes 0x50 to 0x5F (R63). -/
def rows5 : List Row := [
  ⟨0x50#8, .bvc, .relative, 2, false⟩,
  ⟨0x51#8, .eor, .indirectY, 5, true⟩,
  ⟨0x55#8, .eor, .zeroPageX, 4, false⟩,
  ⟨0x56#8, .lsr, .zeroPageX, 6, false⟩,
  ⟨0x58#8, .cli, .implied, 2, false⟩,
  ⟨0x59#8, .eor, .absoluteY, 4, true⟩,
  ⟨0x5D#8, .eor, .absoluteX, 4, true⟩,
  ⟨0x5E#8, .lsr, .absoluteX, 7, false⟩]

/-- The legal opcodes 0x60 to 0x6F (R63). -/
def rows6 : List Row := [
  ⟨0x60#8, .rts, .implied, 6, false⟩,
  ⟨0x61#8, .adc, .indirectX, 6, false⟩,
  ⟨0x65#8, .adc, .zeroPage, 3, false⟩,
  ⟨0x66#8, .ror, .zeroPage, 5, false⟩,
  ⟨0x68#8, .pla, .implied, 4, false⟩,
  ⟨0x69#8, .adc, .immediate, 2, false⟩,
  ⟨0x6A#8, .ror, .accumulator, 2, false⟩,
  ⟨0x6C#8, .jmp, .indirect, 5, false⟩,
  ⟨0x6D#8, .adc, .absolute, 4, false⟩,
  ⟨0x6E#8, .ror, .absolute, 6, false⟩]

/-- The legal opcodes 0x70 to 0x7F (R63). -/
def rows7 : List Row := [
  ⟨0x70#8, .bvs, .relative, 2, false⟩,
  ⟨0x71#8, .adc, .indirectY, 5, true⟩,
  ⟨0x75#8, .adc, .zeroPageX, 4, false⟩,
  ⟨0x76#8, .ror, .zeroPageX, 6, false⟩,
  ⟨0x78#8, .sei, .implied, 2, false⟩,
  ⟨0x79#8, .adc, .absoluteY, 4, true⟩,
  ⟨0x7D#8, .adc, .absoluteX, 4, true⟩,
  ⟨0x7E#8, .ror, .absoluteX, 7, false⟩]

/-- The legal opcodes 0x80 to 0x8F (R63). -/
def rows8 : List Row := [
  ⟨0x81#8, .sta, .indirectX, 6, false⟩,
  ⟨0x84#8, .sty, .zeroPage, 3, false⟩,
  ⟨0x85#8, .sta, .zeroPage, 3, false⟩,
  ⟨0x86#8, .stx, .zeroPage, 3, false⟩,
  ⟨0x88#8, .dey, .implied, 2, false⟩,
  ⟨0x8A#8, .txa, .implied, 2, false⟩,
  ⟨0x8C#8, .sty, .absolute, 4, false⟩,
  ⟨0x8D#8, .sta, .absolute, 4, false⟩,
  ⟨0x8E#8, .stx, .absolute, 4, false⟩]

/-- The legal opcodes 0x90 to 0x9F (R63). -/
def rows9 : List Row := [
  ⟨0x90#8, .bcc, .relative, 2, false⟩,
  ⟨0x91#8, .sta, .indirectY, 6, false⟩,
  ⟨0x94#8, .sty, .zeroPageX, 4, false⟩,
  ⟨0x95#8, .sta, .zeroPageX, 4, false⟩,
  ⟨0x96#8, .stx, .zeroPageY, 4, false⟩,
  ⟨0x98#8, .tya, .implied, 2, false⟩,
  ⟨0x99#8, .sta, .absoluteY, 5, false⟩,
  ⟨0x9A#8, .txs, .implied, 2, false⟩,
  ⟨0x9D#8, .sta, .absoluteX, 5, false⟩]

/-- The legal opcodes 0xA0 to 0xAF (R63). -/
def rowsA : List Row := [
  ⟨0xA0#8, .ldy, .immediate, 2, false⟩,
  ⟨0xA1#8, .lda, .indirectX, 6, false⟩,
  ⟨0xA2#8, .ldx, .immediate, 2, false⟩,
  ⟨0xA4#8, .ldy, .zeroPage, 3, false⟩,
  ⟨0xA5#8, .lda, .zeroPage, 3, false⟩,
  ⟨0xA6#8, .ldx, .zeroPage, 3, false⟩,
  ⟨0xA8#8, .tay, .implied, 2, false⟩,
  ⟨0xA9#8, .lda, .immediate, 2, false⟩,
  ⟨0xAA#8, .tax, .implied, 2, false⟩,
  ⟨0xAC#8, .ldy, .absolute, 4, false⟩,
  ⟨0xAD#8, .lda, .absolute, 4, false⟩,
  ⟨0xAE#8, .ldx, .absolute, 4, false⟩]

/-- The legal opcodes 0xB0 to 0xBF (R63). -/
def rowsB : List Row := [
  ⟨0xB0#8, .bcs, .relative, 2, false⟩,
  ⟨0xB1#8, .lda, .indirectY, 5, true⟩,
  ⟨0xB4#8, .ldy, .zeroPageX, 4, false⟩,
  ⟨0xB5#8, .lda, .zeroPageX, 4, false⟩,
  ⟨0xB6#8, .ldx, .zeroPageY, 4, false⟩,
  ⟨0xB8#8, .clv, .implied, 2, false⟩,
  ⟨0xB9#8, .lda, .absoluteY, 4, true⟩,
  ⟨0xBA#8, .tsx, .implied, 2, false⟩,
  ⟨0xBC#8, .ldy, .absoluteX, 4, true⟩,
  ⟨0xBD#8, .lda, .absoluteX, 4, true⟩,
  ⟨0xBE#8, .ldx, .absoluteY, 4, true⟩]

/-- The legal opcodes 0xC0 to 0xCF (R63). -/
def rowsC : List Row := [
  ⟨0xC0#8, .cpy, .immediate, 2, false⟩,
  ⟨0xC1#8, .cmp, .indirectX, 6, false⟩,
  ⟨0xC4#8, .cpy, .zeroPage, 3, false⟩,
  ⟨0xC5#8, .cmp, .zeroPage, 3, false⟩,
  ⟨0xC6#8, .dec, .zeroPage, 5, false⟩,
  ⟨0xC8#8, .iny, .implied, 2, false⟩,
  ⟨0xC9#8, .cmp, .immediate, 2, false⟩,
  ⟨0xCA#8, .dex, .implied, 2, false⟩,
  ⟨0xCC#8, .cpy, .absolute, 4, false⟩,
  ⟨0xCD#8, .cmp, .absolute, 4, false⟩,
  ⟨0xCE#8, .dec, .absolute, 6, false⟩]

/-- The legal opcodes 0xD0 to 0xDF (R63). -/
def rowsD : List Row := [
  ⟨0xD0#8, .bne, .relative, 2, false⟩,
  ⟨0xD1#8, .cmp, .indirectY, 5, true⟩,
  ⟨0xD5#8, .cmp, .zeroPageX, 4, false⟩,
  ⟨0xD6#8, .dec, .zeroPageX, 6, false⟩,
  ⟨0xD8#8, .cld, .implied, 2, false⟩,
  ⟨0xD9#8, .cmp, .absoluteY, 4, true⟩,
  ⟨0xDD#8, .cmp, .absoluteX, 4, true⟩,
  ⟨0xDE#8, .dec, .absoluteX, 7, false⟩]

/-- The legal opcodes 0xE0 to 0xEF (R63). -/
def rowsE : List Row := [
  ⟨0xE0#8, .cpx, .immediate, 2, false⟩,
  ⟨0xE1#8, .sbc, .indirectX, 6, false⟩,
  ⟨0xE4#8, .cpx, .zeroPage, 3, false⟩,
  ⟨0xE5#8, .sbc, .zeroPage, 3, false⟩,
  ⟨0xE6#8, .inc, .zeroPage, 5, false⟩,
  ⟨0xE8#8, .inx, .implied, 2, false⟩,
  ⟨0xE9#8, .sbc, .immediate, 2, false⟩,
  ⟨0xEA#8, .nop, .implied, 2, false⟩,
  ⟨0xEC#8, .cpx, .absolute, 4, false⟩,
  ⟨0xED#8, .sbc, .absolute, 4, false⟩,
  ⟨0xEE#8, .inc, .absolute, 6, false⟩]

/-- The legal opcodes 0xF0 to 0xFF (R63). -/
def rowsF : List Row := [
  ⟨0xF0#8, .beq, .relative, 2, false⟩,
  ⟨0xF1#8, .sbc, .indirectY, 5, true⟩,
  ⟨0xF5#8, .sbc, .zeroPageX, 4, false⟩,
  ⟨0xF6#8, .inc, .zeroPageX, 6, false⟩,
  ⟨0xF8#8, .sed, .implied, 2, false⟩,
  ⟨0xF9#8, .sbc, .absoluteY, 4, true⟩,
  ⟨0xFD#8, .sbc, .absoluteX, 4, true⟩,
  ⟨0xFE#8, .inc, .absoluteX, 7, false⟩]

/-- The opcode map: the 151 legal opcodes (R63). -/
def opcodeMap : List Row :=
  rows0 ++ rows1 ++ rows2 ++ rows3 ++ rows4 ++ rows5 ++ rows6 ++ rows7
    ++ rows8 ++ rows9 ++ rowsA ++ rowsB ++ rowsC ++ rowsD ++ rowsE ++ rowsF

/-- The rows of a high nibble, as the grid of R63 lays them out. -/
def rowsAt : Nat → List Row
  | 0 => rows0
  | 1 => rows1
  | 2 => rows2
  | 3 => rows3
  | 4 => rows4
  | 5 => rows5
  | 6 => rows6
  | 7 => rows7
  | 8 => rows8
  | 9 => rows9
  | 10 => rowsA
  | 11 => rowsB
  | 12 => rowsC
  | 13 => rowsD
  | 14 => rowsE
  | 15 => rowsF
  | _ => []

/-- The row of an opcode byte; none for the 105 unmapped bytes (R64). -/
def rowOf (op : Byte) : Option Row := (rowsAt (op.toNat / 16)).find? (fun r => r.opcode == op)

/-- The operand a mode reads from the bytes after the opcode, with the bytes left over (R61, R62). -/
def Operand.ofBytes : Mode → List Byte → Option (Operand × List Byte)
  | .accumulator, rest => some (.accumulator, rest)
  | .implied, rest => some (.implied, rest)
  | .immediate, b :: rest => some (.immediate b, rest)
  | .absolute, l :: h :: rest => some (.absolute (word h l), rest)
  | .absoluteX, l :: h :: rest => some (.absoluteX (word h l), rest)
  | .absoluteY, l :: h :: rest => some (.absoluteY (word h l), rest)
  | .zeroPage, b :: rest => some (.zeroPage b, rest)
  | .zeroPageX, b :: rest => some (.zeroPageX b, rest)
  | .zeroPageY, b :: rest => some (.zeroPageY b, rest)
  | .indirect, l :: h :: rest => some (.indirect (word h l), rest)
  | .indirectX, b :: rest => some (.indirectX b, rest)
  | .indirectY, b :: rest => some (.indirectY b, rest)
  | .relative, b :: rest => some (.relative b, rest)
  | _, _ => none

/-- The instruction of a mnemonic with an operand; none where the mnemonic lacks the operand's mode (R63). -/
def assemble (m : Mnemonic) (o : Operand) : Option Instr :=
  match m with
  | .lda =>
    match o with
    | .immediate b => some (.ldaImmediate b)
    | .absolute w => some (.ldaAbsolute w)
    | .absoluteX w => some (.ldaAbsoluteX w)
    | .absoluteY w => some (.ldaAbsoluteY w)
    | .zeroPage b => some (.ldaZeroPage b)
    | .zeroPageX b => some (.ldaZeroPageX b)
    | .indirectX b => some (.ldaIndirectX b)
    | .indirectY b => some (.ldaIndirectY b)
    | _ => none
  | .ldx =>
    match o with
    | .immediate b => some (.ldxImmediate b)
    | .absolute w => some (.ldxAbsolute w)
    | .absoluteY w => some (.ldxAbsoluteY w)
    | .zeroPage b => some (.ldxZeroPage b)
    | .zeroPageY b => some (.ldxZeroPageY b)
    | _ => none
  | .ldy =>
    match o with
    | .immediate b => some (.ldyImmediate b)
    | .absolute w => some (.ldyAbsolute w)
    | .absoluteX w => some (.ldyAbsoluteX w)
    | .zeroPage b => some (.ldyZeroPage b)
    | .zeroPageX b => some (.ldyZeroPageX b)
    | _ => none
  | .sta =>
    match o with
    | .absolute w => some (.staAbsolute w)
    | .absoluteX w => some (.staAbsoluteX w)
    | .absoluteY w => some (.staAbsoluteY w)
    | .zeroPage b => some (.staZeroPage b)
    | .zeroPageX b => some (.staZeroPageX b)
    | .indirectX b => some (.staIndirectX b)
    | .indirectY b => some (.staIndirectY b)
    | _ => none
  | .stx =>
    match o with
    | .absolute w => some (.stxAbsolute w)
    | .zeroPage b => some (.stxZeroPage b)
    | .zeroPageY b => some (.stxZeroPageY b)
    | _ => none
  | .sty =>
    match o with
    | .absolute w => some (.styAbsolute w)
    | .zeroPage b => some (.styZeroPage b)
    | .zeroPageX b => some (.styZeroPageX b)
    | _ => none
  | .tax =>
    match o with
    | .implied => some .tax
    | _ => none
  | .tay =>
    match o with
    | .implied => some .tay
    | _ => none
  | .tsx =>
    match o with
    | .implied => some .tsx
    | _ => none
  | .txa =>
    match o with
    | .implied => some .txa
    | _ => none
  | .txs =>
    match o with
    | .implied => some .txs
    | _ => none
  | .tya =>
    match o with
    | .implied => some .tya
    | _ => none
  | .pha =>
    match o with
    | .implied => some .pha
    | _ => none
  | .php =>
    match o with
    | .implied => some .php
    | _ => none
  | .pla =>
    match o with
    | .implied => some .pla
    | _ => none
  | .plp =>
    match o with
    | .implied => some .plp
    | _ => none
  | .and =>
    match o with
    | .immediate b => some (.andImmediate b)
    | .absolute w => some (.andAbsolute w)
    | .absoluteX w => some (.andAbsoluteX w)
    | .absoluteY w => some (.andAbsoluteY w)
    | .zeroPage b => some (.andZeroPage b)
    | .zeroPageX b => some (.andZeroPageX b)
    | .indirectX b => some (.andIndirectX b)
    | .indirectY b => some (.andIndirectY b)
    | _ => none
  | .ora =>
    match o with
    | .immediate b => some (.oraImmediate b)
    | .absolute w => some (.oraAbsolute w)
    | .absoluteX w => some (.oraAbsoluteX w)
    | .absoluteY w => some (.oraAbsoluteY w)
    | .zeroPage b => some (.oraZeroPage b)
    | .zeroPageX b => some (.oraZeroPageX b)
    | .indirectX b => some (.oraIndirectX b)
    | .indirectY b => some (.oraIndirectY b)
    | _ => none
  | .eor =>
    match o with
    | .immediate b => some (.eorImmediate b)
    | .absolute w => some (.eorAbsolute w)
    | .absoluteX w => some (.eorAbsoluteX w)
    | .absoluteY w => some (.eorAbsoluteY w)
    | .zeroPage b => some (.eorZeroPage b)
    | .zeroPageX b => some (.eorZeroPageX b)
    | .indirectX b => some (.eorIndirectX b)
    | .indirectY b => some (.eorIndirectY b)
    | _ => none
  | .bit =>
    match o with
    | .absolute w => some (.bitAbsolute w)
    | .zeroPage b => some (.bitZeroPage b)
    | _ => none
  | .asl =>
    match o with
    | .accumulator => some .aslAccumulator
    | .absolute w => some (.aslAbsolute w)
    | .absoluteX w => some (.aslAbsoluteX w)
    | .zeroPage b => some (.aslZeroPage b)
    | .zeroPageX b => some (.aslZeroPageX b)
    | _ => none
  | .lsr =>
    match o with
    | .accumulator => some .lsrAccumulator
    | .absolute w => some (.lsrAbsolute w)
    | .absoluteX w => some (.lsrAbsoluteX w)
    | .zeroPage b => some (.lsrZeroPage b)
    | .zeroPageX b => some (.lsrZeroPageX b)
    | _ => none
  | .rol =>
    match o with
    | .accumulator => some .rolAccumulator
    | .absolute w => some (.rolAbsolute w)
    | .absoluteX w => some (.rolAbsoluteX w)
    | .zeroPage b => some (.rolZeroPage b)
    | .zeroPageX b => some (.rolZeroPageX b)
    | _ => none
  | .ror =>
    match o with
    | .accumulator => some .rorAccumulator
    | .absolute w => some (.rorAbsolute w)
    | .absoluteX w => some (.rorAbsoluteX w)
    | .zeroPage b => some (.rorZeroPage b)
    | .zeroPageX b => some (.rorZeroPageX b)
    | _ => none
  | .adc =>
    match o with
    | .immediate b => some (.adcImmediate b)
    | .absolute w => some (.adcAbsolute w)
    | .absoluteX w => some (.adcAbsoluteX w)
    | .absoluteY w => some (.adcAbsoluteY w)
    | .zeroPage b => some (.adcZeroPage b)
    | .zeroPageX b => some (.adcZeroPageX b)
    | .indirectX b => some (.adcIndirectX b)
    | .indirectY b => some (.adcIndirectY b)
    | _ => none
  | .sbc =>
    match o with
    | .immediate b => some (.sbcImmediate b)
    | .absolute w => some (.sbcAbsolute w)
    | .absoluteX w => some (.sbcAbsoluteX w)
    | .absoluteY w => some (.sbcAbsoluteY w)
    | .zeroPage b => some (.sbcZeroPage b)
    | .zeroPageX b => some (.sbcZeroPageX b)
    | .indirectX b => some (.sbcIndirectX b)
    | .indirectY b => some (.sbcIndirectY b)
    | _ => none
  | .cmp =>
    match o with
    | .immediate b => some (.cmpImmediate b)
    | .absolute w => some (.cmpAbsolute w)
    | .absoluteX w => some (.cmpAbsoluteX w)
    | .absoluteY w => some (.cmpAbsoluteY w)
    | .zeroPage b => some (.cmpZeroPage b)
    | .zeroPageX b => some (.cmpZeroPageX b)
    | .indirectX b => some (.cmpIndirectX b)
    | .indirectY b => some (.cmpIndirectY b)
    | _ => none
  | .cpx =>
    match o with
    | .immediate b => some (.cpxImmediate b)
    | .absolute w => some (.cpxAbsolute w)
    | .zeroPage b => some (.cpxZeroPage b)
    | _ => none
  | .cpy =>
    match o with
    | .immediate b => some (.cpyImmediate b)
    | .absolute w => some (.cpyAbsolute w)
    | .zeroPage b => some (.cpyZeroPage b)
    | _ => none
  | .inc =>
    match o with
    | .absolute w => some (.incAbsolute w)
    | .absoluteX w => some (.incAbsoluteX w)
    | .zeroPage b => some (.incZeroPage b)
    | .zeroPageX b => some (.incZeroPageX b)
    | _ => none
  | .dec =>
    match o with
    | .absolute w => some (.decAbsolute w)
    | .absoluteX w => some (.decAbsoluteX w)
    | .zeroPage b => some (.decZeroPage b)
    | .zeroPageX b => some (.decZeroPageX b)
    | _ => none
  | .inx =>
    match o with
    | .implied => some .inx
    | _ => none
  | .dex =>
    match o with
    | .implied => some .dex
    | _ => none
  | .iny =>
    match o with
    | .implied => some .iny
    | _ => none
  | .dey =>
    match o with
    | .implied => some .dey
    | _ => none
  | .bcc =>
    match o with
    | .relative b => some (.bcc b)
    | _ => none
  | .bcs =>
    match o with
    | .relative b => some (.bcs b)
    | _ => none
  | .beq =>
    match o with
    | .relative b => some (.beq b)
    | _ => none
  | .bne =>
    match o with
    | .relative b => some (.bne b)
    | _ => none
  | .bmi =>
    match o with
    | .relative b => some (.bmi b)
    | _ => none
  | .bpl =>
    match o with
    | .relative b => some (.bpl b)
    | _ => none
  | .bvc =>
    match o with
    | .relative b => some (.bvc b)
    | _ => none
  | .bvs =>
    match o with
    | .relative b => some (.bvs b)
    | _ => none
  | .jmp =>
    match o with
    | .absolute w => some (.jmpAbsolute w)
    | .indirect w => some (.jmpIndirect w)
    | _ => none
  | .jsr =>
    match o with
    | .absolute w => some (.jsr w)
    | _ => none
  | .rts =>
    match o with
    | .implied => some .rts
    | _ => none
  | .clc =>
    match o with
    | .implied => some .clc
    | _ => none
  | .sec =>
    match o with
    | .implied => some .sec
    | _ => none
  | .cld =>
    match o with
    | .implied => some .cld
    | _ => none
  | .sed =>
    match o with
    | .implied => some .sed
    | _ => none
  | .cli =>
    match o with
    | .implied => some .cli
    | _ => none
  | .sei =>
    match o with
    | .implied => some .sei
    | _ => none
  | .clv =>
    match o with
    | .implied => some .clv
    | _ => none
  | .nop =>
    match o with
    | .implied => some .nop
    | _ => none
  | .brk =>
    match o with
    | .implied => some .brk
    | _ => none
  | .rti =>
    match o with
    | .implied => some .rti
    | _ => none

/-- Why bytes are not an instruction. -/
inductive DecodeError where
  /-- there is no byte at all -/
  | noBytes
  /-- the first byte is none of the 151 legal opcodes (R64) -/
  | opcodeNotInSet (op : Byte)
  /-- the opcode is legal and its operand bytes are not all there (R61) -/
  | operandMissing (op : Byte)
  deriving DecidableEq, Repr

/-- The instruction at the head of the bytes, with the bytes left over. The first byte alone selects operation, mode
and length (R60). -/
def decode : List Byte → Except DecodeError (Instr × List Byte)
  | [] => .error .noBytes
  | op :: rest =>
    match rowOf op with
    | none => .error (.opcodeNotInSet op)
    | some r =>
      match Operand.ofBytes r.mode rest with
      | none => .error (.operandMissing op)
      | some (o, rest') =>
        match assemble r.mnemonic o with
        | none => .error (.opcodeNotInSet op)
        | some i => .ok (i, rest')

/-- The opcode byte of an instruction (R63, the *Operands* line of each instruction's rule). -/
def Instr.opcode : Instr → Byte
  | .ldaImmediate _ => 0xA9#8
  | .ldaAbsolute _ => 0xAD#8
  | .ldaAbsoluteX _ => 0xBD#8
  | .ldaAbsoluteY _ => 0xB9#8
  | .ldaZeroPage _ => 0xA5#8
  | .ldaZeroPageX _ => 0xB5#8
  | .ldaIndirectX _ => 0xA1#8
  | .ldaIndirectY _ => 0xB1#8
  | .ldxImmediate _ => 0xA2#8
  | .ldxAbsolute _ => 0xAE#8
  | .ldxAbsoluteY _ => 0xBE#8
  | .ldxZeroPage _ => 0xA6#8
  | .ldxZeroPageY _ => 0xB6#8
  | .ldyImmediate _ => 0xA0#8
  | .ldyAbsolute _ => 0xAC#8
  | .ldyAbsoluteX _ => 0xBC#8
  | .ldyZeroPage _ => 0xA4#8
  | .ldyZeroPageX _ => 0xB4#8
  | .staAbsolute _ => 0x8D#8
  | .staAbsoluteX _ => 0x9D#8
  | .staAbsoluteY _ => 0x99#8
  | .staZeroPage _ => 0x85#8
  | .staZeroPageX _ => 0x95#8
  | .staIndirectX _ => 0x81#8
  | .staIndirectY _ => 0x91#8
  | .stxAbsolute _ => 0x8E#8
  | .stxZeroPage _ => 0x86#8
  | .stxZeroPageY _ => 0x96#8
  | .styAbsolute _ => 0x8C#8
  | .styZeroPage _ => 0x84#8
  | .styZeroPageX _ => 0x94#8
  | .tax => 0xAA#8
  | .tay => 0xA8#8
  | .tsx => 0xBA#8
  | .txa => 0x8A#8
  | .txs => 0x9A#8
  | .tya => 0x98#8
  | .pha => 0x48#8
  | .php => 0x08#8
  | .pla => 0x68#8
  | .plp => 0x28#8
  | .andImmediate _ => 0x29#8
  | .andAbsolute _ => 0x2D#8
  | .andAbsoluteX _ => 0x3D#8
  | .andAbsoluteY _ => 0x39#8
  | .andZeroPage _ => 0x25#8
  | .andZeroPageX _ => 0x35#8
  | .andIndirectX _ => 0x21#8
  | .andIndirectY _ => 0x31#8
  | .oraImmediate _ => 0x09#8
  | .oraAbsolute _ => 0x0D#8
  | .oraAbsoluteX _ => 0x1D#8
  | .oraAbsoluteY _ => 0x19#8
  | .oraZeroPage _ => 0x05#8
  | .oraZeroPageX _ => 0x15#8
  | .oraIndirectX _ => 0x01#8
  | .oraIndirectY _ => 0x11#8
  | .eorImmediate _ => 0x49#8
  | .eorAbsolute _ => 0x4D#8
  | .eorAbsoluteX _ => 0x5D#8
  | .eorAbsoluteY _ => 0x59#8
  | .eorZeroPage _ => 0x45#8
  | .eorZeroPageX _ => 0x55#8
  | .eorIndirectX _ => 0x41#8
  | .eorIndirectY _ => 0x51#8
  | .bitAbsolute _ => 0x2C#8
  | .bitZeroPage _ => 0x24#8
  | .aslAccumulator => 0x0A#8
  | .aslAbsolute _ => 0x0E#8
  | .aslAbsoluteX _ => 0x1E#8
  | .aslZeroPage _ => 0x06#8
  | .aslZeroPageX _ => 0x16#8
  | .lsrAccumulator => 0x4A#8
  | .lsrAbsolute _ => 0x4E#8
  | .lsrAbsoluteX _ => 0x5E#8
  | .lsrZeroPage _ => 0x46#8
  | .lsrZeroPageX _ => 0x56#8
  | .rolAccumulator => 0x2A#8
  | .rolAbsolute _ => 0x2E#8
  | .rolAbsoluteX _ => 0x3E#8
  | .rolZeroPage _ => 0x26#8
  | .rolZeroPageX _ => 0x36#8
  | .rorAccumulator => 0x6A#8
  | .rorAbsolute _ => 0x6E#8
  | .rorAbsoluteX _ => 0x7E#8
  | .rorZeroPage _ => 0x66#8
  | .rorZeroPageX _ => 0x76#8
  | .adcImmediate _ => 0x69#8
  | .adcAbsolute _ => 0x6D#8
  | .adcAbsoluteX _ => 0x7D#8
  | .adcAbsoluteY _ => 0x79#8
  | .adcZeroPage _ => 0x65#8
  | .adcZeroPageX _ => 0x75#8
  | .adcIndirectX _ => 0x61#8
  | .adcIndirectY _ => 0x71#8
  | .sbcImmediate _ => 0xE9#8
  | .sbcAbsolute _ => 0xED#8
  | .sbcAbsoluteX _ => 0xFD#8
  | .sbcAbsoluteY _ => 0xF9#8
  | .sbcZeroPage _ => 0xE5#8
  | .sbcZeroPageX _ => 0xF5#8
  | .sbcIndirectX _ => 0xE1#8
  | .sbcIndirectY _ => 0xF1#8
  | .cmpImmediate _ => 0xC9#8
  | .cmpAbsolute _ => 0xCD#8
  | .cmpAbsoluteX _ => 0xDD#8
  | .cmpAbsoluteY _ => 0xD9#8
  | .cmpZeroPage _ => 0xC5#8
  | .cmpZeroPageX _ => 0xD5#8
  | .cmpIndirectX _ => 0xC1#8
  | .cmpIndirectY _ => 0xD1#8
  | .cpxImmediate _ => 0xE0#8
  | .cpxAbsolute _ => 0xEC#8
  | .cpxZeroPage _ => 0xE4#8
  | .cpyImmediate _ => 0xC0#8
  | .cpyAbsolute _ => 0xCC#8
  | .cpyZeroPage _ => 0xC4#8
  | .incAbsolute _ => 0xEE#8
  | .incAbsoluteX _ => 0xFE#8
  | .incZeroPage _ => 0xE6#8
  | .incZeroPageX _ => 0xF6#8
  | .decAbsolute _ => 0xCE#8
  | .decAbsoluteX _ => 0xDE#8
  | .decZeroPage _ => 0xC6#8
  | .decZeroPageX _ => 0xD6#8
  | .inx => 0xE8#8
  | .dex => 0xCA#8
  | .iny => 0xC8#8
  | .dey => 0x88#8
  | .bcc _ => 0x90#8
  | .bcs _ => 0xB0#8
  | .beq _ => 0xF0#8
  | .bne _ => 0xD0#8
  | .bmi _ => 0x30#8
  | .bpl _ => 0x10#8
  | .bvc _ => 0x50#8
  | .bvs _ => 0x70#8
  | .jmpAbsolute _ => 0x4C#8
  | .jmpIndirect _ => 0x6C#8
  | .jsr _ => 0x20#8
  | .rts => 0x60#8
  | .clc => 0x18#8
  | .sec => 0x38#8
  | .cld => 0xD8#8
  | .sed => 0xF8#8
  | .cli => 0x58#8
  | .sei => 0x78#8
  | .clv => 0xB8#8
  | .nop => 0xEA#8
  | .brk => 0x00#8
  | .rti => 0x40#8

/-- The map's row of an instruction. -/
def Instr.row (i : Instr) : Option Row := rowOf i.opcode

/-- The bytes of an instruction: its opcode, then its operand bytes, low byte first (R61, R62). -/
def encode (i : Instr) : List Byte := i.opcode :: i.operand.bytes

/-- Byte `k` of an instruction whose bits are `w`, numbered as spec/opcode_table.json numbers them, bit 0 the least
significant of the first byte; the bits from `nbits` up are zero (notes/assumptions/18.md). -/
def tableByte (nbits w k : Nat) : Byte := BitVec.ofNat 8 ((w % 2 ^ nbits) >>> (8 * k))

/-- The bytes such an instruction is stored as, up to the longest instruction's three. -/
def tableBytes (nbits w : Nat) : List Byte := [tableByte nbits w 0, tableByte nbits w 1, tableByte nbits w 2]

/-- The instruction the decoder reads from a word of the opcode table. -/
def decodeTableWord (nbits w : Nat) : Option Instr :=
  match decode (tableBytes nbits w) with
  | .ok (i, _) => some i
  | .error _ => none

end Sys2Proof
end

