-- ==== Sys2Proof/Machine/Fetch.lean ====
section
/-! DEFINITION. Fetching an instruction's bytes at PC, and placing bytes in memory (30_encoding.md R61, R62,
40_step_and_addressing.md R80). -/

namespace Sys2Proof.Machine

/-- The length of the instruction an opcode begins; an unmapped one is the one byte that is read (R60, R61, R230). -/
def opcodeLength (op : Byte) : Nat :=
  match rowOf op with
  | some r => 1 + r.mode.adv
  | none => 1

/-- Ascending addresses from `a` on; they wrap (R26, R56). -/
def addressesFrom (a : Word) : Nat → List Word
  | 0 => []
  | n + 1 => a :: addressesFrom (a + 1#16) n

/-- The bytes of reads at ascending addresses from `a` on, each made after the ones before it. -/
def State.readBytes (s : State) (a : Word) : Nat → List Byte
  | 0 => []
  | n + 1 => s.read a :: (s.afterReads [a]).readBytes (a + 1#16) n

/-- The bytes of the instruction at PC: the opcode, then the operand bytes it has, and no others
(notes/assumptions/17.md). -/
def State.fetchBytes (s : State) : List Byte := s.readBytes s.pc (opcodeLength (s.read s.pc))

/-- The instruction at PC, or the fault of an unmapped opcode, which records the opcode byte (R80, R230). -/
def State.decodeAt (s : State) : Except Fault Instr :=
  match decode s.fetchBytes with
  | .ok (i, _) => .ok i
  | .error _ => .error (.opcodeNotInSet (s.read s.pc))

/-- The state after the reads of an instruction's bytes at PC. -/
def State.fetched (s : State) (i : Instr) : State := s.afterReads (addressesFrom s.pc i.length)

/-- Bytes stored at ascending addresses from `a` on. -/
def State.storeBytes (s : State) (a : Word) : List Byte → State
  | [] => s
  | b :: bs => (s.write a b).storeBytes (a + 1#16) bs

end Sys2Proof.Machine
end

