-- ==== Sys2Proof/Machine/Step.lean ====
section
/-! DEFINITION. One step: fetch, decode, execute (40_step_and_addressing.md R80). -/

namespace Sys2Proof.Machine

/-- One step. A legal opcode runs its instruction, whose opcode is at PC; any other byte ends the step with
`opcodeNotInSet` and commits nothing (R80, R230). -/
def step (s : State) : Host.Outcome State Fault Refusal :=
  match s.decodeAt with
  | .ok i => exec i (s.fetched i)
  | .error f => .fault f

/-- `s` with the instruction whose bits are `w` stored at PC (notes/assumptions/2.md, 18.md). -/
def State.withFetchWord (s : State) (nbits w : Nat) : State := s.storeBytes s.pc (tableBytes nbits w)

end Sys2Proof.Machine
end

