-- ==== Sys2Proof/Machine/Bus.lean ====
section
/-! DEFINITION. The accesses a step makes on the memory port, in order (20_memory.md R41, R45, R50, R51;
00_scope.md R9: "The core's outputs are the calls it makes on the memory port"). They are an output
of the step. A read is listed by its address alone, since its byte is what the port answers
(notes/assumptions/16.md). -/

namespace Sys2Proof.Machine

/-- What a call does to the state. -/
def Access.apply (s : State) : Access → State
  | .read a => s.afterReads [a]
  | .write a v => s.write a v

/-- The addresses an instruction reads before its operation, after the opcode, `s` being the state after the fetch: the
operand bytes at ascending addresses from `pc1` on, then the mode's own (R51, R82). -/
def operandReads (s : State) (pc1 : Word) (o : Operand) : List Word := addressesFrom pc1 o.mode.adv ++ s.modeReads o

/-- The one write of the store helper, to memory or none (R102). -/
def storeAccess (am : Am) (v : Byte) : List Access := if am.acc then [] else [.write am.ea v]

/-- The write of one push at a stack pointer (R95). -/
def pushAccess (sp : Byte) (v : Byte) : Access := .write (stackAddr sp) v

/-- The two writes of pushing a word (R96). -/
def pushWordAccesses (sp : Byte) (w : Word) : List Access := [pushAccess sp (hi w), pushAccess (sp - 1#8) (lo w)]

/-- The accesses of the interrupt sequence: three pushes, then the vector, low byte first (R220, R51). -/
def interruptAccesses (s : State) (ret : Word) (b : Bool) (vec : Word) : List Access :=
  pushWordAccesses s.sp ret ++ [pushAccess (s.sp - 2#8) (s.p.pushed b), .read vec, .read (vec + 1#16)]

/-- The accesses of reset: the vector, low byte first, and nothing else (70_reset_and_hazards.md R261). -/
def resetAccesses : List Access := [.read Config.resetVector, .read (Config.resetVector + 1#16)]

/-- The accesses of an operation, after the mode's; `next` is the address of the next instruction (R51). -/
def operationAccesses (m : Mnemonic) (am : Am) (s : State) (next : Word) : List Access :=
  match m with
  | .sta => [.write am.ea s.a]
  | .stx => [.write am.ea s.x]
  | .sty => [.write am.ea s.y]
  | .asl => storeAccess am (aslByte am.value).result
  | .lsr => storeAccess am (lsrByte am.value).result
  | .rol => storeAccess am (rolByte am.value s.p.c).result
  | .ror => storeAccess am (rorByte am.value s.p.c).result
  | .inc => storeAccess am (am.value + 1#8)
  | .dec => storeAccess am (am.value - 1#8)
  | .pha => [pushAccess s.sp s.a]
  | .php => [pushAccess s.sp (s.p.pushed true)]
  | .pla => [.read (stackAddr (s.sp + 1#8))]
  | .plp => [.read (stackAddr (s.sp + 1#8))]
  | .jsr => pushWordAccesses s.sp (next - 1#16)
  | .rts => [.read (stackAddr (s.sp + 1#8)), .read (stackAddr (s.sp + 2#8))]
  | .brk => interruptAccesses s (next + 1#16) true Config.irqVector
  | .rti => [.read (stackAddr (s.sp + 1#8)), .read (stackAddr (s.sp + 2#8)), .read (stackAddr (s.sp + 3#8))]
  | _ => []

/-- The address of the instruction after the one at PC (R26). -/
def State.nextPc (s : State) (i : Instr) : Word := s.pc + 1#16 + (s.am i.operand).adv

/-- The accesses of an instruction after the opcode read, `s` being the state after the fetch. -/
def instrAccesses (i : Instr) (s : State) : List Access :=
  (operandReads s (s.pc + 1#16) i.operand).map .read ++ operationAccesses i.mnemonic (s.am i.operand) s (s.nextPc i)

/-- The accesses of a step: the opcode, and for a legal one the rest (R51, R230). -/
def stepAccesses (s : State) : List Access :=
  .read s.pc :: (match s.decodeAt with
    | .ok i => instrAccesses i (s.fetched i)
    | .error _ => [])

end Sys2Proof.Machine
end

