-- ==== Sys2Proof/Machine/Timing.lean ====
section
/-! DEFINITION. The cycle count a step reports (30_encoding.md R67 to R71). It is an output of the step and no part of
the state (10_state.md R37); the counts are customary ones (notes/assumptions/7.md). -/

namespace Sys2Proof.Machine

/-- Whether a branch is taken; false for every other mnemonic (47_branch_jump.md R190). -/
def branchTaken (m : Mnemonic) (p : Flags) : Bool :=
  match m with
  | .bcc => condBcc p
  | .bcs => condBcs p
  | .beq => condBeq p
  | .bne => condBne p
  | .bmi => condBmi p
  | .bpl => condBpl p
  | .bvc => condBvc p
  | .bvs => condBvs p
  | _ => false

/-- One more cycle, or none. -/
def oneIf (b : Bool) : Nat := if b then 1 else 0

/-- The base cycle count of an instruction (R68). -/
def baseCycles (i : Instr) : Nat :=
  match i.row with
  | some r => r.cycles
  | none => 0

/-- Whether a page crossing adds a cycle to this instruction (R69). -/
def hasPenalty (i : Instr) : Bool :=
  match i.row with
  | some r => r.penalty
  | none => false

/-- The cycles an instruction reports, its opcode being at PC and its bytes fetched: the base count, one more on a page
crossing where the opcode is marked (R69), and for a branch one more if taken and another if the target lies in another
page (R70). -/
def instrCycles (i : Instr) (s : State) : Nat :=
  baseCycles i + oneIf (hasPenalty i && (s.am i.operand).crossed)
    + oneIf (branchTaken i.mnemonic s.p) + oneIf (branchTaken i.mnemonic s.p && (s.am i.operand).crossed)

/-- The cycles the next step reports; a faulting step reports one (R64, R71). -/
def stepCycles (s : State) : Nat :=
  match s.decodeAt with
  | .ok i => instrCycles i (s.fetched i)
  | .error _ => Config.faultCycles

end Sys2Proof.Machine
end

