-- ==== Sys2Proof/Machine/Transactions.lean ====
section
/-! DEFINITION. The host's transactions beside `step` (00_scope.md R9): reset, the two interrupt requests and run_for,
with the end of a run as the host's own condition. Each is complete before the next begins; none is latched
(60_exceptions.md R236, R237; notes/assumptions/13.md). -/

namespace Sys2Proof.Machine

/-- `reset`: every register and flag is overwritten, PC from the reset vector; memory is not touched
(70_reset_and_hazards.md R260, R261). -/
def State.resetNow (s : State) : State :=
  { s.afterReads [Config.resetVector, Config.resetVector + 1#16] with
    pc := s.read16 Config.resetVector
    sp := Config.resetSp
    a := 0#8
    x := 0#8
    y := 0#8
    p := ⟨false, false, true, false, false, false⟩ }

/-- `trigger_irq`: dropped when I is set, not remembered (60_exceptions.md R234). -/
def State.triggerIrq (s : State) : State := if s.p.i then s else s.interrupt s.pc false Config.irqVector

/-- `trigger_nmi`: unconditional (R235). -/
def State.triggerNmi (s : State) : State := s.interrupt s.pc false Config.nmiVector

/-- How a `run_for` ended. -/
inductive RunEnd where
  /-- the accumulated count reached the budget -/
  | budgetSpent
  /-- a step faulted; the run's state is the one it faulted in -/
  | faulted (f : Fault)
  /-- a step was refused; no instruction of this model is -/
  | stopped (r : Refusal)
  /-- the model's own bound on the number of steps was reached first (notes/assumptions/14.md) -/
  | outOfFuel
  deriving DecidableEq, Repr

/-- What `run_for` gives back: the accumulated count and how it ended; with the accesses it made, in order, and the
state it left. -/
structure Run where
  cycles   : Nat
  ending   : RunEnd
  accesses : List Access
  state    : State
  deriving DecidableEq, Repr

/-- The state a step leaves that does not answer a next one: the registers and memory of before, the read of the opcode
made (10_state.md R21, R230). -/
def State.afterFault (s : State) : State := s.afterReads [s.pc]

/-- The run loop: step, add the count, stop at the budget or on a fault (R81). A faulting step adds its one cycle.
`budget = 0` is unbounded; `elapsed` and `made` are the count and the accesses so far. -/
def runLoop (budget : Nat) : Nat → Nat → List Access → State → Run
  | 0, elapsed, made, s => ⟨elapsed, .outOfFuel, made, s⟩
  | fuel + 1, elapsed, made, s =>
    let cycles := elapsed + stepCycles s
    let accesses := made ++ stepAccesses s
    match step s with
    | .fault f => ⟨cycles, .faulted f, accesses, s.afterFault⟩
    | .refused r => ⟨cycles, .stopped r, accesses, s.afterFault⟩
    | .next t =>
      if budget ≠ 0 ∧ budget ≤ cycles then ⟨cycles, .budgetSpent, accesses, t⟩
      else runLoop budget fuel cycles accesses t

/-- `run_for(n)` for `n ≥ 1`. Every step reports a cycle or more, so `n` steps are enough fuel (R81). -/
def State.runFor (s : State) (n : Nat) : Run := runLoop n n 0 [] s

/-- `run_for(0)`, unbounded, as far as `fuel` steps carry it (R81, D17). -/
def State.runUnbounded (s : State) (fuel : Nat) : Run := runLoop 0 fuel 0 [] s

/-- A host's run until its own condition `halt` holds, checked between steps (70_reset_and_hazards.md R267, D12):
the state where it first holds, or none within `fuel` steps or after a fault. -/
def runUntil (halt : State → Bool) : Nat → State → Option State
  | 0, s => if halt s then some s else none
  | fuel + 1, s =>
    if halt s then some s
    else match step s with
      | .next t => runUntil halt fuel t
      | .fault _ => none
      | .refused _ => none

/-- The customary condition: the instruction at PC is a jump or a taken branch to itself (R267, D12). -/
def State.jumpsToItself (s : State) : Bool :=
  match s.decodeAt with
  | .ok i => (i.mnemonic == .jmp || branchTaken i.mnemonic s.p) && ((s.fetched i).am i.operand).ea == s.pc
  | .error _ => false

/-- The five transactions (R9). `runFor` carries the budget; `runFor 0` also needs the model's fuel. -/
inductive Transaction where
  | reset
  | step
  | runFor (n : Nat)
  | runUnbounded (fuel : Nat)
  | triggerIrq
  | triggerNmi
  deriving DecidableEq, Repr

/-- The state a transaction leaves. A faulting step changes no register, flag or memory byte (10_state.md R21). -/
def State.transact (s : State) : Transaction → State
  | .reset => s.resetNow
  | .step =>
    match Sys2Proof.Machine.step s with
    | .next t => t
    | .fault _ => s.afterFault
    | .refused _ => s.afterFault
  | .runFor n => (s.runFor n).state
  | .runUnbounded fuel => (s.runUnbounded fuel).state
  | .triggerIrq => s.triggerIrq
  | .triggerNmi => s.triggerNmi

/-- The accesses a transaction makes on the port, in order: the outputs of R9. A masked IRQ makes none (R234). -/
def State.accesses (s : State) : Transaction → List Access
  | .reset => resetAccesses
  | .step => stepAccesses s
  | .runFor n => (s.runFor n).accesses
  | .runUnbounded fuel => (s.runUnbounded fuel).accesses
  | .triggerIrq => if s.p.i then [] else interruptAccesses s s.pc false Config.irqVector
  | .triggerNmi => interruptAccesses s s.pc false Config.nmiVector

end Sys2Proof.Machine
end

