-- ==== Sys2Proof/Safety.lean ====
section
/-! DEFINITION. The terms claims are stated in: the invariant of the machine, the states the host's transactions
reach, and what a result leaves. -/

namespace Sys2Proof.Machine

/-- The invariant of every state: memory is in its canonical form for its device, so that equal memories are equal
data and no cell lies outside the device (20_memory.md R40, R49), and only an attached memory keeps calls. The registers'
ranges are their types. -/
def State.Inv (s : State) : Prop := s.mem.wf s.device.size = true ∧ (s.device ≠ .attached → s.calls = [])

/-- The states the host's transactions lead to (10_state.md R20: "The state is changed only by the transactions"). -/
inductive Reaches : State → State → Prop where
  | refl (s : State) : Reaches s s
  | next (s t : State) (x : Transaction) : Reaches s t → Reaches s (t.transact x)

/-- `c 0, …, c k` are `k` steps in a row from `s`, each answering the next state. -/
def Steps (s : State) (k : Nat) (c : Nat → State) : Prop := c 0 = s ∧ ∀ j < k, step (c j) = .next (c (j + 1))

/-- The cycles the steps from `c 0, …, c (m - 1)` report, together (40_step_and_addressing.md R81). -/
def cyclesOf (c : Nat → State) (m : Nat) : Nat := ((List.range m).map fun j => stepCycles (c j)).sum

/-- The accesses the steps from `c 0, …, c (m - 1)` make, in order (20_memory.md R50). -/
def accessesOf (c : Nat → State) (m : Nat) : List Access := (List.range m).flatMap fun j => stepAccesses (c j)

/-- The state a result leaves, where it is a next state. -/
def stateOf : Host.Outcome State Fault Refusal → Option State
  | .next s => some s
  | .fault _ => none
  | .refused _ => none

/-- The fault a result is, where it is one. -/
def faultOf : Host.Outcome State Fault Refusal → Option Fault
  | .next _ => none
  | .fault f => some f
  | .refused _ => none

/-- Two addresses name the same cell (R49); in plain RAM only equal addresses do. -/
def State.sameCell (s : State) (a b : Word) : Bool := s.device.cell a == s.device.cell b

end Sys2Proof.Machine
end

