-- ==== Sys2Proof/Certificates/Slice0/Obligations.lean ====
section
/-! DEFINITION. The statements for the provers, from the rules of spec/. "log n" is notes/assumptions/n.md. A cell is
what an address names in the attached device: in plain RAM each address is its own cell (20_memory.md R49). -/

open Sys2Proof Sys2Proof.Machine

/-- For every instruction and any bytes after it: the instruction is well formed, decoding its bytes followed by those
bytes answers the instruction and exactly those bytes, and the encoding has as many bytes as the instruction is long.
From 30_encoding.md section 1 Formats; 30_encoding.md section 2 The opcode map. -/
def Obligations.DecodeOfEncodeIsTheInstruction : Prop :=
  ∀ (i : Instr) (rest : List Byte),
    i.wellFormed = true ∧ decode (encode i ++ rest) = .ok (i, rest) ∧ (encode i).length = i.length

/-- Whenever bytes decode to an instruction with some bytes left over, the bytes are the encoding of that instruction
followed by the bytes left over. From 30_encoding.md section 1 Formats; 30_encoding.md section 2 The opcode map. -/
def Obligations.EncodeOfDecodeIsTheBytes : Prop :=
  ∀ (bs rest : List Byte) (i : Instr), decode bs = .ok (i, rest) → bs = encode i ++ rest

/-- A byte is refused as an opcode, whatever follows it, exactly when it is one of the 105 bytes the spec lists; the
other 151 are legal. The map itself is the spec's general knowledge (decision D24, log 6). From 30_encoding.md section
3 Unmapped, reserved and hint encodings; 92_eei_decisions.md D24. -/
def Obligations.UnmappedOpcodesAreTheListedBytes : Prop :=
  (∀ op b1 b2 : Byte, decode [op, b1, b2] = .error (.opcodeNotInSet op) ↔ op ∈ [
        0x02#8, 0x03#8, 0x04#8, 0x07#8, 0x0B#8, 0x0C#8, 0x0F#8, 0x12#8, 0x13#8, 0x14#8, 0x17#8, 0x1A#8, 0x1B#8, 0x1C#8, 0x1F#8,
        0x22#8, 0x23#8, 0x27#8, 0x2B#8, 0x2F#8, 0x32#8, 0x33#8, 0x34#8, 0x37#8, 0x3A#8, 0x3B#8, 0x3C#8, 0x3F#8, 0x42#8, 0x43#8,
        0x44#8, 0x47#8, 0x4B#8, 0x4F#8, 0x52#8, 0x53#8, 0x54#8, 0x57#8, 0x5A#8, 0x5B#8, 0x5C#8, 0x5F#8, 0x62#8, 0x63#8, 0x64#8,
        0x67#8, 0x6B#8, 0x6F#8, 0x72#8, 0x73#8, 0x74#8, 0x77#8, 0x7A#8, 0x7B#8, 0x7C#8, 0x7F#8, 0x80#8, 0x82#8, 0x83#8, 0x87#8,
        0x89#8, 0x8B#8, 0x8F#8, 0x92#8, 0x93#8, 0x97#8, 0x9B#8, 0x9C#8, 0x9E#8, 0x9F#8, 0xA3#8, 0xA7#8, 0xAB#8, 0xAF#8, 0xB2#8,
        0xB3#8, 0xB7#8, 0xBB#8, 0xBF#8, 0xC2#8, 0xC3#8, 0xC7#8, 0xCB#8, 0xCF#8, 0xD2#8, 0xD3#8, 0xD4#8, 0xD7#8, 0xDA#8, 0xDB#8,
        0xDC#8, 0xDF#8, 0xE2#8, 0xE3#8, 0xE7#8, 0xEB#8, 0xEF#8, 0xF2#8, 0xF3#8, 0xF4#8, 0xF7#8, 0xFA#8, 0xFB#8, 0xFC#8, 0xFF#8]) ∧
    ((List.range 256).filter (fun k => (rowOf (BitVec.ofNat 8 k)).isSome)).length = 151

/-- The bytes A9 80, 9D F0 12, 9A, 08, 39 FF 10, 24 10, 76 10, 69 20, E9 F0, E4 10, DE 00 20, C8, 90 20, 6C FF 00, 20
34 12, 60, F8, EA, 00 and 40 decode to the instructions the opcode map names. From 30_encoding.md section 2 The opcode
map; 95_test_vectors.md Part 2. -/
def Obligations.SampleWordsDecode : Prop :=
  decode [0xA9#8, 0x80#8] = .ok (.ldaImmediate 0x80#8, []) ∧
    decode [0x9D#8, 0xF0#8, 0x12#8] = .ok (.staAbsoluteX 0x12F0#16, []) ∧
    decode [0x9A#8] = .ok (.txs, []) ∧
    decode [0x08#8] = .ok (.php, []) ∧
    decode [0x39#8, 0xFF#8, 0x10#8] = .ok (.andAbsoluteY 0x10FF#16, []) ∧
    decode [0x24#8, 0x10#8] = .ok (.bitZeroPage 0x10#8, []) ∧
    decode [0x76#8, 0x10#8] = .ok (.rorZeroPageX 0x10#8, []) ∧
    decode [0x69#8, 0x20#8] = .ok (.adcImmediate 0x20#8, []) ∧
    decode [0xE9#8, 0xF0#8] = .ok (.sbcImmediate 0xF0#8, []) ∧
    decode [0xE4#8, 0x10#8] = .ok (.cpxZeroPage 0x10#8, []) ∧
    decode [0xDE#8, 0x00#8, 0x20#8] = .ok (.decAbsoluteX 0x2000#16, []) ∧
    decode [0xC8#8] = .ok (.iny, []) ∧
    decode [0x90#8, 0x20#8] = .ok (.bcc 0x20#8, []) ∧
    decode [0x6C#8, 0xFF#8, 0x00#8] = .ok (.jmpIndirect 0x00FF#16, []) ∧
    decode [0x20#8, 0x34#8, 0x12#8] = .ok (.jsr 0x1234#16, []) ∧
    decode [0x60#8] = .ok (.rts, []) ∧
    decode [0xF8#8] = .ok (.sed, []) ∧
    decode [0xEA#8] = .ok (.nop, []) ∧
    decode [0x00#8] = .ok (.brk, []) ∧
    decode [0x40#8] = .ok (.rti, [])

/-- For every mnemonic and operand, the pair assembles to an instruction exactly when its written form passes the
well-formedness check, and the instruction then has that mnemonic and that operand. From 30_encoding.md section 2 The
opcode map; 00_scope.md section 4 Notation. -/
def Obligations.AssembledExactlyWhenWellFormed : Prop :=
  ∀ (m : Mnemonic) (o : Operand),
    ((assemble m o).isSome = true ↔ (Written.mk m o.mode o.bytes).wellFormed = true) ∧
      ∀ i, assemble m o = some i → i.mnemonic = m ∧ i.operand = o

/-- When the bytes fetched at PC decode to an instruction, the step is exec of that instruction at the state after the
reads of those bytes (one per byte, from PC on at ascending addresses), with nothing around it (exec itself advances
PC); with a RAM those reads change nothing, so the step is exec of the instruction at that state. The wrap of PC at
0xFFFF is the spec's decision D3 (log 5). From 40_step_and_addressing.md section 1 The sequencer; 20_memory.md section
3 Ordering. -/
def Obligations.StepRunsTheDecodedInstruction : Prop :=
  ∀ (s : State) (i : Instr) (rest : List Byte), decode s.fetchBytes = .ok (i, rest) →
    step s = exec i (s.fetched i) ∧
      s.fetched i = s.afterReads ((List.range i.length).map fun k => s.pc + BitVec.ofNat 16 k) ∧
      (s.device ≠ .attached → step s = exec i s)

/-- When as many reads from PC on as an instruction is long, each made after the ones before it, give its encoding,
the step is exec of that instruction at the state after those reads; so with a RAM, when the byte at PC +16 k is byte
k of the encoding, for every byte of it, the step is exec of the instruction at that state, whatever else memory
holds. The wrap of PC at 0xFFFF is the spec's decision D3 (log 5). From 40_step_and_addressing.md section 1 The
sequencer; 30_encoding.md section 1 Formats. -/
def Obligations.StepRunsTheEncodedInstruction : Prop :=
  ∀ (s : State) (i : Instr),
    (s.readBytes s.pc i.length = encode i → step s = exec i (s.fetched i)) ∧
      (s.device ≠ .attached →
        (∀ (k : Nat) (b : Byte), (encode i)[k]? = some b → s.read (s.pc + BitVec.ofNat 16 k) = b) → step s = exec i s)

/-- For every instruction and every state exec answers a next state; a step that faults does so with OpcodeNotInSet of
the byte at PC, which the opcode map lacks; no step is refused. Rules: R231. -/
def Obligations.LegalInstructionsAlwaysComplete : Prop :=
  (∀ (i : Instr) (s : State), ∃ t, exec i s = .next t) ∧
    (∀ (s : State) (f : Fault), step s = .fault f → f = .opcodeNotInSet (s.read s.pc) ∧ rowOf (s.read s.pc) = none) ∧
    (∀ (s : State) (r : Refusal), step s ≠ .refused r)

/-- When the opcode map has no row for the byte at PC, the step is the fault OpcodeNotInSet of that byte, it reports
one cycle, its one access is the read of the opcode, and the state after the transaction is the state before with that
one read made, which with a RAM is the very state before (the spec's decision D6, log 12). From 60_exceptions.md
section 1 Synchronous faults; 92_eei_decisions.md D6. -/
def Obligations.UnmappedOpcodeFaultsAndCommitsNothing : Prop :=
  ∀ s : State, rowOf (s.read s.pc) = none →
    step s = .fault (.opcodeNotInSet (s.read s.pc)) ∧ stepCycles s = 1 ∧
      stepAccesses s = [.read s.pc] ∧ s.transact .step = s.afterReads [s.pc] ∧
      (s.device ≠ .attached → s.transact .step = s)

/-- From every state whose memory is in canonical form for its device (cells strictly rising, all inside the device,
none holding what an unlisted cell reads as) and in which only an attached memory keeps calls, a step that answers a
next state gives a state with those properties, and the same device. From 20_memory.md section 1 The address space and
the port; 10_state.md section 1 The whole state. -/
def Obligations.StepKeepsTheInvariant : Prop :=
  ∀ s t : State, s.Inv → step s = .next t → t.Inv ∧ t.device = s.device

/-- State.reset has its memory in canonical form and equals the reset transaction applied to the power-on state over
the same empty plain RAM. The contents of that RAM are the model's choice (log 1). From 10_state.md section 6 Power-on
and reset values. -/
def Obligations.ResetStateMeetsTheInvariant : Prop :=
  State.reset.Inv ∧ State.reset = (State.powerOn .ram64k []).resetNow

/-- From every state that meets the invariant, any sequence of the host's transactions (reset, step, run_for,
trigger_irq, trigger_nmi) leads only to states that meet it, with the same device. From 00_scope.md section 5
Modelling inventory; 10_state.md section 1 The whole state. -/
def Obligations.TransactionsKeepTheInvariant : Prop :=
  ∀ s t : State, s.Inv → Reaches s t → t.Inv ∧ t.device = s.device

/-- Two states that meet the invariant, with the same RAM as device, whose reads agree at every address hold the same
list and the same calls (none). From 20_memory.md section 1 The address space and the port. -/
def Obligations.EqualReadsAreEqualMemories : Prop :=
  ∀ s t : State, s.Inv → t.Inv → s.device ≠ .attached → s.device = t.device → (∀ a : Word, s.read a = t.read a) →
    s.mem = t.mem ∧ s.calls = t.calls

/-- Every mirrored RAM has one of the six sizes of the rule, a power of two; an address names the cell given by
masking it with size - 1, which is its remainder; a byte written through one address is read back through exactly the
addresses with the same remainder, every other address reading as before; and each of the six sizes exists. Rules:
R49. -/
def Obligations.MirroredRamNamesCellsByLowBits : Prop :=
  (∀ z : MirrorSize, z.bytes ∈ [8, 16, 32, 64, 128, 1024] ∧
      ∀ a : Word, (Device.mirrored z).cell a = a.toNat &&& (z.bytes - 1) ∧
        (Device.mirrored z).cell a = a.toNat % z.bytes) ∧
    (∀ n ∈ [8, 16, 32, 64, 128, 1024], ∃ z : MirrorSize, z.bytes = n) ∧
    (∀ (s : State) (z : MirrorSize) (a b : Word) (v : Byte), s.Inv → s.device = .mirrored z →
      (s.write a v).read b = if a.toNat % z.bytes = b.toNat % z.bytes then v else s.read b)

/-- With the default device (the spec's default D14, log 3), after a write the written address reads the written byte
and every other address reads as before; a write changes no register and no flag; a word stored low byte first at a
vector reads back as that word. From 20_memory.md section 3 Ordering; 92_eei_decisions.md D14. -/
def Obligations.PlainRamReadsTheLastWrite : Prop :=
  ∀ (s : State) (a : Word) (v : Byte), s.Inv → s.device = .ram64k →
    (∀ b : Word, (s.write a v).read b = if b = a then v else s.read b) ∧
      (∃ m : Memory, s.write a v = { s with mem := m }) ∧
      ∀ w : Word, ((s.write a (lo w)).write (a + 1#16) (hi w)).read16 a = w

/-- For the instruction that decodes at PC, with pc1 = PC + 1, l and h the bytes read at pc1 and pc1 + 1 and t the
state after the fetch: Implied gives value and address 0 and makes no memory access; Immediate gives l, at pc1, with
one read; Absolute gives the byte at {h, l} with three reads; ZeroPage the byte at l with two reads; none reports a
crossing, none marks the accumulator, each consumes its operand bytes; every one-byte instruction is Implied but for
the four accumulator shifts. Rules: R84, R85, R86, R89. -/
def Obligations.UnindexedModesGiveTheirOperand : Prop :=
  (∀ (s : State) (i : Instr), s.decodeAt = .ok i →
      let pc1 := s.pc + 1#16
      let l := (s.afterReads [s.pc]).read pc1
      let h := (s.afterReads [s.pc, pc1]).read (pc1 + 1#16)
      let t := s.fetched i
      (i.mode = .implied → t.am i.operand = ⟨0#16, 0#8, false, 0#16, false⟩ ∧ operandReads t pc1 i.operand = []) ∧
        (i.mode = .immediate →
          t.am i.operand = ⟨1#16, l, false, pc1, false⟩ ∧ (operandReads t pc1 i.operand).length = 1) ∧
        (i.mode = .absolute →
          t.am i.operand = ⟨2#16, t.read (word h l), false, word h l, false⟩ ∧
            (operandReads t pc1 i.operand).length = 3) ∧
        (i.mode = .zeroPage →
          t.am i.operand = ⟨1#16, t.read (zext l), false, zext l, false⟩ ∧
            (operandReads t pc1 i.operand).length = 2)) ∧
    (∀ i : Instr, i.length = 1 ↔
      i.mode = .implied ∨ i.mode = .accumulator ∧ i.mnemonic ∈ [.asl, .lsr, .rol, .ror])

/-- For the instruction that decodes at PC, with z the operand byte and t the state after the fetch: the effective
address is the byte z + X (or z + Y), modulo 256, in page zero; the value is the byte there; one operand byte is
consumed; no crossing is reported; two reads; ZeroPageY is used only by LDX and STX. Rules: R90, R91. -/
def Obligations.ZeroPageIndexedModesWrapInPageZero : Prop :=
  ∀ (s : State) (i : Instr), s.decodeAt = .ok i →
    let z := (s.afterReads [s.pc]).read (s.pc + 1#16)
    let t := s.fetched i
    let ex := BitVec.ofNat 16 ((z.toNat + s.x.toNat) % 256)
    let ey := BitVec.ofNat 16 ((z.toNat + s.y.toNat) % 256)
    (i.mode = .zeroPageX →
      t.am i.operand = ⟨1#16, t.read ex, false, ex, false⟩ ∧
        (operandReads t (s.pc + 1#16) i.operand).length = 2) ∧
      (i.mode = .zeroPageY →
        t.am i.operand = ⟨1#16, t.read ey, false, ey, false⟩ ∧ i.mnemonic ∈ [.ldx, .stx] ∧
          (operandReads t (s.pc + 1#16) i.operand).length = 2)

/-- For the instruction that decodes at PC in Indirect mode, with l and h its operand bytes and t the state after the
fetch: it is a JMP; the target is the byte at {h, l + 1 modulo 256} over the byte at {h, l}; the value is the byte at
the target; two operand bytes are consumed; no crossing; five reads. Rules: R92. -/
def Obligations.IndirectModeKeepsThePointerPage : Prop :=
  ∀ (s : State) (i : Instr), s.decodeAt = .ok i → i.mode = .indirect →
    let l := (s.afterReads [s.pc]).read (s.pc + 1#16)
    let h := (s.afterReads [s.pc, s.pc + 1#16]).read (s.pc + 2#16)
    let t := s.fetched i
    let ea := word ((t.afterReads [word h l]).read (word h (l + 1#8))) (t.read (word h l))
    let v := (t.afterReads [word h l, word h (l + 1#8)]).read ea
    i.mnemonic = .jmp ∧ t.am i.operand = ⟨2#16, v, false, ea, false⟩ ∧
      (operandReads t (s.pc + 1#16) i.operand).length = 5

/-- For the instruction that decodes at PC, with z the operand byte and t the state after the fetch: IndirectX reads
its pointer at z + X and z + X + 1, both modulo 256, and reports no crossing; IndirectY reads its pointer at z and z +
1, modulo 256, adds Y to the word modulo 65,536 and reports a crossing iff the high byte changed; each value is the
byte at the effective address, one operand byte is consumed, four reads. Rules: R93, R94. -/
def Obligations.ZeroPagePointerModes : Prop :=
  ∀ (s : State) (i : Instr), s.decodeAt = .ok i →
    let z := ((s.afterReads [s.pc]).read (s.pc + 1#16)).toNat
    let t := s.fetched i
    let zp := fun n : Nat => BitVec.ofNat 16 (n % 256)
    let pointer := fun n : Nat => word ((t.afterReads [zp n]).read (zp (n + 1))) (t.read (zp n))
    let value := fun (n : Nat) (ea : Word) => (t.afterReads [zp n, zp (n + 1)]).read ea
    let ex := pointer (z + s.x.toNat)
    let base := pointer z
    let ey := BitVec.ofNat 16 (base.toNat + s.y.toNat)
    (i.mode = .indirectX →
      t.am i.operand = ⟨1#16, value (z + s.x.toNat) ex, false, ex, false⟩ ∧
        (operandReads t (s.pc + 1#16) i.operand).length = 4) ∧
      (i.mode = .indirectY →
        t.am i.operand = ⟨1#16, value z ey, false, ey, decide (ey.toNat / 256 ≠ base.toNat / 256)⟩ ∧
          (operandReads t (s.pc + 1#16) i.operand).length = 4)

/-- For the instruction that decodes at PC, t being the state after the fetch: AbsoluteX and AbsoluteY add the index
to the operand word modulo 65,536 and report a crossing iff the high byte changed; Accumulator gives A and marks it as
destination; Relative gives the address after the branch plus the signed offset, modulo 65,536, and its crossing
compares that target's page with the next instruction's. The wraps are the spec's decision D3 (log 5), Relative's
crossing its decision D9 (log 7), Accumulator's address 0 the spec's own choice ("this spec sets it to 0"). From
40_step_and_addressing.md section 3 The thirteen addressing modes; 92_eei_decisions.md D3; 92_eei_decisions.md D9. -/
def Obligations.AbsoluteIndexedAccumulatorAndRelativeModes : Prop :=
  ∀ (s : State) (i : Instr), s.decodeAt = .ok i →
    let l := (s.afterReads [s.pc]).read (s.pc + 1#16)
    let h := (s.afterReads [s.pc, s.pc + 1#16]).read (s.pc + 2#16)
    let t := s.fetched i
    let base := word h l
    let ex := BitVec.ofNat 16 (base.toNat + s.x.toNat)
    let ey := BitVec.ofNat 16 (base.toNat + s.y.toNat)
    let next := s.pc + 2#16
    let target := BitVec.ofInt 16 (next.toInt + l.toInt)
    (i.mode = .absoluteX → t.am i.operand = ⟨2#16, t.read ex, false, ex, decide (ex.toNat / 256 ≠ base.toNat / 256)⟩) ∧
      (i.mode = .absoluteY →
        t.am i.operand = ⟨2#16, t.read ey, false, ey, decide (ey.toNat / 256 ≠ base.toNat / 256)⟩) ∧
      (i.mode = .accumulator → t.am i.operand = ⟨0#16, s.a, true, 0#16, false⟩) ∧
      (i.mode = .relative →
        t.am i.operand = ⟨1#16, l, false, target, decide (target.toNat / 256 ≠ next.toNat / 256)⟩)

/-- For every state: a push writes its byte at {0x01, SP}, then SP drops by 1 modulo 256, no register or flag else
changing; a pull raises SP by 1 modulo 256, reads the byte there, and changes no other register, no flag and no memory
byte; a push then a pull restores SP. With a RAM and the invariant: the push leaves every other cell alone, a push
then a pull gives the pushed byte, and two pushes then two pulls give the bytes in reverse order. Rules: R95, R98. -/
def Obligations.PushAndPullOneByte : Prop :=
  ∀ (s : State) (v w : Byte),
    s.pushByte v = { s.write (word 0x01#8 s.sp) v with sp := BitVec.ofNat 8 (s.sp.toNat + 255) } ∧
      s.popped = { s.afterReads [word 0x01#8 (s.sp + 1#8)] with sp := BitVec.ofNat 8 (s.sp.toNat + 1) } ∧
      s.pulledByte = s.read (word 0x01#8 (BitVec.ofNat 8 (s.sp.toNat + 1))) ∧
      (s.pushByte v).popped.sp = s.sp ∧ ((s.pushByte v).pushByte w).popped.popped.sp = s.sp ∧
      (s.Inv → s.device ≠ .attached →
        (s.pushByte v).read (word 0x01#8 s.sp) = v ∧
          (∀ b : Word, s.device.cell b ≠ s.device.cell (word 0x01#8 s.sp) → (s.pushByte v).read b = s.read b) ∧
          (∃ m : Memory, s.pushByte v = { s with mem := m, sp := BitVec.ofNat 8 (s.sp.toNat + 255) }) ∧
          s.popped = { s with sp := BitVec.ofNat 8 (s.sp.toNat + 1) } ∧
          (s.pushByte v).pulledByte = v ∧
          ((s.pushByte v).pushByte w).pulledByte = w ∧
          ((s.pushByte v).pushByte w).popped.pulledByte = v)

/-- For every state: pushing a word is pushing its high byte then its low byte; pulling a word takes the low byte from
{0x01, SP + 1} and then the high byte from {0x01, SP + 2}. With a RAM and the invariant: after the push the high byte
lies at {0x01, SP} and the low byte one slot below, and the pulled word after it is the pushed word. Rules: R96, R99.
-/
def Obligations.PushAndPullAWord : Prop :=
  ∀ (s : State) (w : Word),
    let slot := fun k : Byte => word 0x01#8 (s.sp + k)
    s.pushWord w = (s.pushByte (BitVec.ofNat 8 (w.toNat / 256))).pushByte (BitVec.ofNat 8 w.toNat) ∧
      (s.pushWord w).sp = s.sp - 2#8 ∧
      s.pulledWord = word ((s.afterReads [slot 1#8]).read (slot 2#8)) (s.read (slot 1#8)) ∧
      (s.Inv → s.device ≠ .attached →
        (s.pushWord w).read (word 0x01#8 s.sp) = BitVec.ofNat 8 (w.toNat / 256) ∧
          (s.pushWord w).read (word 0x01#8 (s.sp - 1#8)) = BitVec.ofNat 8 w.toNat ∧
          (s.pushWord w).pulledWord = w)

/-- For every state: the status byte pushed with B given has C, Z, I, D, V, N at bits 0, 1, 2, 3, 6, 7, bit 5 set and
bit 4 equal to B; push_status pushes that byte as push_byte does and changes no flag; PHP and BRK push with B set, IRQ
and NMI with B clear: each writes that byte, and with a RAM and the invariant it stands in its slot. Rules: R28, R97.
-/
def Obligations.PushedStatusByte : Prop :=
  (∀ (p : Flags) (b : Bool),
      bit (p.pushed b) 0 = p.c ∧ bit (p.pushed b) 1 = p.z ∧ bit (p.pushed b) 2 = p.i ∧ bit (p.pushed b) 3 = p.d ∧
        bit (p.pushed b) 4 = b ∧ bit (p.pushed b) 5 = true ∧ bit (p.pushed b) 6 = p.v ∧ bit (p.pushed b) 7 = p.n) ∧
    (∀ (s : State) (b : Bool), s.pushStatus b = s.pushByte (s.p.pushed b) ∧ (s.pushStatus b).p = s.p) ∧
    (∀ s : State,
      .write (word 0x01#8 s.sp) (s.p.pushed true) ∈ instrAccesses .php s ∧
        .write (word 0x01#8 (s.sp - 2#8)) (s.p.pushed true) ∈ instrAccesses .brk s ∧
        (s.p.i = false → .write (word 0x01#8 (s.sp - 2#8)) (s.p.pushed false) ∈ s.accesses .triggerIrq) ∧
        .write (word 0x01#8 (s.sp - 2#8)) (s.p.pushed false) ∈ s.accesses .triggerNmi) ∧
    (∀ s : State, s.Inv → s.device ≠ .attached →
      (∀ t : State, exec .php s = .next t → t.read (word 0x01#8 s.sp) = s.p.pushed true) ∧
        (∀ t : State, exec .brk s = .next t → t.read (word 0x01#8 (s.sp - 2#8)) = s.p.pushed true) ∧
        (s.p.i = false → s.triggerIrq.read (word 0x01#8 (s.sp - 2#8)) = s.p.pushed false) ∧
        s.triggerNmi.read (word 0x01#8 (s.sp - 2#8)) = s.p.pushed false)

/-- For every byte: the flags it gives are its bits 0, 1, 2, 3, 6, 7, its view is (byte & 0xCF) | 0x20, and a byte
that differs only in bits 4 and 5 gives the same flags; the flags a pushed status gives back are the flags pushed,
whichever B; pull_status gives the flags of the byte read one slot above SP and moves SP there. What bits 4 and 5 of
the view read as is the spec's decision D2 (log 10). From 10_state.md section 4 Flags and the status byte;
90_conflicts.md C6. -/
def Obligations.PulledStatusByte : Prop :=
  (∀ b : Byte, Flags.ofByte b = ⟨bit b 0, bit b 1, bit b 2, bit b 3, bit b 6, bit b 7⟩ ∧
      (Flags.ofByte b).view = (b &&& 0xCF#8) ||| 0x20#8 ∧ Flags.ofByte (b ^^^ 0x30#8) = Flags.ofByte b) ∧
    (∀ (p : Flags) (b : Bool), Flags.ofByte (p.pushed b) = p) ∧
    (∀ s : State, s.pullStatus = { s.afterReads [word 0x01#8 (s.sp + 1#8)] with
      sp := s.sp + 1#8, p := Flags.ofByte (s.read (word 0x01#8 (s.sp + 1#8))) })

/-- BRK runs the sequence with its address + 2, B set and vector 0xFFFE; IRQ, when I is clear, with PC, B clear and
0xFFFE; NMI with PC, B clear and 0xFFFA. For every state the sequence pushes the high byte of the return address, its
low byte and the status as it was with Constant and B; I is then set, every other flag and A, X and Y stay, and PC is
the word at the vector (low byte at the vector, high byte after it, read after the pushes). With a RAM and the
invariant the three bytes lie at {0x01, S}, {0x01, S - 1} and {0x01, S - 2}, SP is S - 3 and every other cell is
unchanged. Rules: R220. -/
def Obligations.InterruptSequence : Prop :=
  (∀ s : State, exec .brk s =
      .next (({ s with pc := s.pc + 1#16 } : State).interrupt (s.pc + 2#16) true 0xFFFE#16)) ∧
    (∀ s : State, s.p.i = false → s.triggerIrq = s.interrupt s.pc false 0xFFFE#16) ∧
    (∀ s : State, s.triggerNmi = s.interrupt s.pc false 0xFFFA#16) ∧
    (∀ (s : State) (ret : Word) (b : Bool) (vec : Word),
      let t := s.interrupt ret b vec
      let status := s.p.view ||| 0x20#8 ||| (if b then 0x10#8 else 0#8)
      let u := ((s.pushByte (BitVec.ofNat 8 (ret.toNat / 256))).pushByte (BitVec.ofNat 8 ret.toNat)).pushByte status
      t = { u.afterReads [vec, vec + 1#16] with
          p := { s.p with i := true }, pc := word ((u.afterReads [vec]).read (vec + 1#16)) (u.read vec) } ∧
        t.sp = s.sp - 3#8 ∧ t.a = s.a ∧ t.x = s.x ∧ t.y = s.y ∧
        (s.Inv → s.device ≠ .attached →
          t.read (word 0x01#8 s.sp) = BitVec.ofNat 8 (ret.toNat / 256) ∧
            t.read (word 0x01#8 (s.sp - 1#8)) = BitVec.ofNat 8 ret.toNat ∧
            t.read (word 0x01#8 (s.sp - 2#8)) = status ∧
            (∃ m : Memory, t = { s with
              mem := m, sp := s.sp - 3#8, p := { s.p with i := true },
              pc := word (t.read (vec + 1#16)) (t.read vec) }) ∧
            ∀ a : Word,
              (∀ k ∈ [0#8, 1#8, 2#8], s.device.cell a ≠ s.device.cell (word 0x01#8 (s.sp - k))) →
                t.read a = s.read a))

/-- For every state exec of RTI answers the state after reads of the three slots {0x01, SP + 1}, {0x01, SP + 2} and
{0x01, SP + 3}, in which the flags are those of the first byte, PC is the third byte over the second, SP is SP + 3,
and all else is unchanged. From 49_brk_rti.md software interrupt and return from interrupt; 60_exceptions.md section 5
Trap return and nesting. -/
def Obligations.RtiRestoresStatusAndAddress : Prop :=
  ∀ s : State,
    let slot := fun k : Byte => word 0x01#8 (s.sp + k)
    exec .rti s = .next { s.afterReads [slot 1#8, slot 2#8, slot 3#8] with
      p := Flags.ofByte (s.read (slot 1#8))
      pc := word ((s.afterReads [slot 1#8, slot 2#8]).read (slot 3#8)) ((s.afterReads [slot 1#8]).read (slot 2#8))
      sp := s.sp + 3#8 }

/-- With a RAM, from every state that meets the invariant, BRK answers a state from which RTI answers one whose PC is
the BRK's address + 2, whose SP, A, X, Y and all six flags (I too) are those before the BRK, and whose memory differs
only in the three frame slots. From 49_brk_rti.md software interrupt and return from interrupt; 95_test_vectors.md
Part 1 law 11. -/
def Obligations.BrkThenRtiReturnsPastThePadding : Prop :=
  ∀ s : State, s.Inv → s.device ≠ .attached → ∃ t u : State, exec .brk s = .next t ∧ exec .rti t = .next u ∧
    (∃ m : Memory, u = { s with pc := s.pc + 2#16, mem := m }) ∧
    ∀ a : Word, (∀ k ∈ [0#8, 1#8, 2#8], s.device.cell a ≠ s.device.cell (word 0x01#8 (s.sp - k))) → u.read a = s.read a

/-- When I is set the request changes nothing; otherwise it runs the sequence with the current PC, B clear and the
vector 0xFFFE, after which I is set, so that a further request changes nothing. Rules: R234. -/
def Obligations.IrqIsMaskedByI : Prop :=
  ∀ s : State,
    (s.p.i = true → s.triggerIrq = s) ∧
      (s.p.i = false → s.triggerIrq = s.interrupt s.pc false 0xFFFE#16 ∧ s.triggerIrq.p = { s.p with i := true }) ∧
      s.triggerIrq.triggerIrq = s.triggerIrq

/-- For every state, whatever I is, the request runs the sequence with the current PC, B clear and the vector 0xFFFA;
I is then set and SP is three lower, a further NMI is taken at once, and an IRQ issued after it is dropped. Rules:
R235. -/
def Obligations.NmiIsUnconditional : Prop :=
  ∀ s : State, s.triggerNmi = s.interrupt s.pc false 0xFFFA#16 ∧
    s.triggerNmi.p = { s.p with i := true } ∧ s.triggerNmi.sp = s.sp - 3#8 ∧
    s.triggerNmi.triggerNmi = s.triggerNmi.interrupt s.triggerNmi.pc false 0xFFFA#16 ∧
    s.triggerNmi.triggerIrq = s.triggerNmi

/-- For every state reset gives PC the word at 0xFFFC (low, read first) and 0xFFFD (high), SP 0xFD, A, X and Y zero,
every flag zero but I, which is set, and changes nothing else but for those two reads having been made; two states
with the same memory (contents, device and calls) reset to the same state. Rules: R260. -/
def Obligations.ResetSetsEveryRegister : Prop :=
  (∀ s : State, s.resetNow = { s.afterReads [0xFFFC#16, 0xFFFD#16] with
      pc := word ((s.afterReads [0xFFFC#16]).read 0xFFFD#16) (s.read 0xFFFC#16)
      sp := 0xFD#8, a := 0#8, x := 0#8, y := 0#8, p := ⟨false, false, true, false, false, false⟩ }) ∧
    (∀ s t : State, s.mem = t.mem → s.device = t.device → s.calls = t.calls → s.resetNow = t.resetNow)

/-- For every form of LDA, LDX, LDY and every state exec answers the state in which A, X or Y is the addressed value,
Z says whether it is zero, N is its bit 7, PC is the next instruction, and all else is unchanged but for the reads of
the mode having been made. From 41_load_store_transfer.md Loads. -/
def Obligations.LoadsCopyTheOperand : Prop :=
  ∀ (i : Instr) (s : State),
    let v := (s.am i.operand).value
    let p := { s.p with z := v == 0#8, n := bit v 7 }
    let next := s.pc + BitVec.ofNat 16 i.length
    (i.mnemonic = .lda → exec i s = .next { s.afterMode i.operand with a := v, p := p, pc := next }) ∧
      (i.mnemonic = .ldx → exec i s = .next { s.afterMode i.operand with x := v, p := p, pc := next }) ∧
      (i.mnemonic = .ldy → exec i s = .next { s.afterMode i.operand with y := v, p := p, pc := next })

/-- For every form of STA, STX, STY and every state exec answers the state in which, after the reads of the mode, A, X
or Y is written once at the effective address, PC is the next instruction, and no register or flag else differs; with
a RAM and the invariant the effective address then reads as that byte and every address of another cell as before.
From 41_load_store_transfer.md Stores. -/
def Obligations.StoresWriteTheRegister : Prop :=
  ∀ (i : Instr) (s : State),
    let ea := (s.am i.operand).ea
    let stored := fun v : Byte =>
      let t : State := { (s.afterMode i.operand).write ea v with pc := s.pc + BitVec.ofNat 16 i.length }
      exec i s = .next t ∧
        (s.Inv → s.device ≠ .attached →
          t.read ea = v ∧ ∀ a : Word, s.device.cell a ≠ s.device.cell ea → t.read a = s.read a)
    (i.mnemonic = .sta → stored s.a) ∧ (i.mnemonic = .stx → stored s.x) ∧ (i.mnemonic = .sty → stored s.y)

/-- For every state the six transfers answer the state in which the destination register holds the source, Z and N are
those of the byte (for TXS no flag changes), PC is one further, and all else is unchanged. Which register is source
and which destination is the spec's general knowledge (log 6). From 41_load_store_transfer.md Transfers. -/
def Obligations.TransfersCopyARegister : Prop :=
  ∀ s : State,
    let zn := fun v : Byte => { s.p with z := v == 0#8, n := bit v 7 }
    let next := s.pc + 1#16
    exec .tax s = .next { s with x := s.a, p := zn s.a, pc := next } ∧
      exec .tay s = .next { s with y := s.a, p := zn s.a, pc := next } ∧
      exec .tsx s = .next { s with x := s.sp, p := zn s.sp, pc := next } ∧
      exec .txa s = .next { s with a := s.x, p := zn s.x, pc := next } ∧
      exec .txs s = .next { s with sp := s.x, pc := next } ∧
      exec .tya s = .next { s with a := s.y, p := zn s.y, pc := next }

/-- For every state: PHA and PHP answer the push_byte of A and of the status with B and Constant set; PLA answers the
pulled byte in A with its Z and N, PLP the flags of the pulled byte, the slot above SP having been read; SP moves by
one, PC is one further and all else is unchanged. With a RAM, from every state that meets the invariant PHA then PLA
restores A and SP, and PHP then PLP restores every flag and SP. From 42_stack.md stack instructions. -/
def Obligations.StackInstructions : Prop :=
  (∀ s : State,
      let next := s.pc + 1#16
      let slot := word 0x01#8 (s.sp + 1#8)
      let v := s.read slot
      exec .pha s = .next { s.pushByte s.a with pc := next } ∧
        exec .php s = .next { s.pushByte (s.p.view ||| 0x30#8) with pc := next } ∧
        exec .pla s = .next { s.afterReads [slot] with
          a := v, sp := s.sp + 1#8, p := { s.p with z := v == 0#8, n := bit v 7 }, pc := next } ∧
        exec .plp s = .next { s.afterReads [slot] with sp := s.sp + 1#8, p := Flags.ofByte v, pc := next }) ∧
    (∀ s : State, s.Inv → s.device ≠ .attached →
      (∃ t u : State, exec .pha s = .next t ∧ exec .pla t = .next u ∧ u.a = s.a ∧ u.sp = s.sp) ∧
        ∃ t u : State, exec .php s = .next t ∧ exec .plp t = .next u ∧ u.p = s.p ∧ u.sp = s.sp)

/-- For every form and every state: AND, ORA and EOR answer the state in which A is the bitwise combination and Z and
N are those of it; BIT answers the state in which Z says whether A and the operand share no bit, N and V are the
operand's bits 7 and 6 and A is unchanged; PC is the next instruction and all else is unchanged but for the reads of
the mode having been made. Which function each mnemonic is is the spec's general knowledge (log 6). From
43_logical_bit.md logical instructions and bit test. -/
def Obligations.LogicAndBitTest : Prop :=
  ∀ (i : Instr) (s : State),
    let v := (s.am i.operand).value
    let next := s.pc + BitVec.ofNat 16 i.length
    let result := fun r : Byte =>
      exec i s = .next { s.afterMode i.operand with a := r, p := { s.p with z := r == 0#8, n := bit r 7 }, pc := next }
    (i.mnemonic = .and → result (s.a &&& v)) ∧
      (i.mnemonic = .ora → result (s.a ||| v)) ∧
      (i.mnemonic = .eor → result (s.a ^^^ v)) ∧
      (i.mnemonic = .bit →
        exec i s = .next { s.afterMode i.operand with p := { s.p with z := (v &&& s.a) == 0#8, n := bit v 7, v := bit v 6 }, pc := next })

/-- For every form and every state: the result is the operand doubled, halved, doubled plus the old C, or halved plus
128 times the old C, modulo 256; it goes to A in Accumulator mode and to the effective address, once, in the others; C
is the bit that left, Z and N are those of the result (N is 0 after LSR); PC is the next instruction and all else is
unchanged but for the reads of the mode having been made. From 44_shift_rotate.md shifts and rotates;
40_step_and_addressing.md section 5 The store helper. -/
def Obligations.ShiftsAndRotatesWriteBack : Prop :=
  ∀ (i : Instr) (s : State),
    let am := s.am i.operand
    let v := am.value
    let result := fun (r : Byte) (c : Bool) =>
      exec i s = .next { (if i.mode = .accumulator then { s with a := r } else (s.afterMode i.operand).write am.ea r) with
        p := { s.p with c := c, z := r == 0#8, n := bit r 7 }, pc := s.pc + BitVec.ofNat 16 i.length }
    (i.mnemonic = .asl → result (BitVec.ofNat 8 (2 * v.toNat)) (decide (v.toNat ≥ 128))) ∧
      (i.mnemonic = .lsr → result (BitVec.ofNat 8 (v.toNat / 2)) (decide (v.toNat % 2 = 1))) ∧
      (i.mnemonic = .rol → result (BitVec.ofNat 8 (2 * v.toNat + s.p.c.toNat)) (decide (v.toNat ≥ 128))) ∧
      (i.mnemonic = .ror → result (BitVec.ofNat 8 (v.toNat / 2 + 128 * s.p.c.toNat)) (decide (v.toNat % 2 = 1)))

/-- For every form of ADC and every state with D clear exec answers the state in which A is A + value + C modulo 256,
C says whether the sum exceeds 255, V whether the operands agree in bit 7 and the result does not, which is whether
the signed sum lies outside -128 to 127, Z and N are those of the result, PC is the next instruction and all else is
unchanged but for the reads of the mode having been made. Rules: R161. -/
def Obligations.AdcBinaryAddsWithCarry : Prop :=
  ∀ (i : Instr) (s : State), i.mnemonic = .adc → s.p.d = false →
    let v := (s.am i.operand).value
    let r16 := s.a.toNat + v.toNat + s.p.c.toNat
    let r8 := BitVec.ofNat 8 r16
    let ov := ((s.a ^^^ v) &&& 0x80#8) == 0#8 && ((s.a ^^^ r8) &&& 0x80#8) != 0#8
    exec i s = .next { s.afterMode i.operand with
        a := r8, p := { s.p with c := decide (r16 > 0xFF), v := ov, z := r8 == 0#8, n := bit r8 7 },
        pc := s.pc + BitVec.ofNat 16 i.length } ∧
      (ov = true ↔ s.a.toInt + v.toInt + s.p.c.toNat < -128 ∨ s.a.toInt + v.toInt + s.p.c.toNat > 127)

/-- For every form of SBC and every state with D clear exec answers the state in which A is A - value - (1 - C) modulo
256, C says whether that difference is not negative, V whether the signed difference lies outside -128 to 127, Z and N
are those of the result, PC is the next instruction and all else is unchanged but for the reads of the mode having
been made. That C and V are these is the spec's own derivation from its formula ("derived: from this rule, checked
exhaustively"). From 45_arithmetic_compare.md Subtract with carry. -/
def Obligations.SbcBinarySubtractsWithBorrow : Prop :=
  ∀ (i : Instr) (s : State), i.mnemonic = .sbc → s.p.d = false →
    let v := (s.am i.operand).value
    let d : Int := s.a.toNat - v.toNat - (1 - s.p.c.toNat : Int)
    let sd : Int := s.a.toInt - v.toInt - (1 - s.p.c.toNat : Int)
    let r8 := BitVec.ofInt 8 d
    exec i s = .next { s.afterMode i.operand with
      a := r8, p := { s.p with
        c := decide (0 ≤ d), v := decide (sd < -128 ∨ sd > 127), z := r8 == 0#8, n := bit r8 7 },
      pc := s.pc + BitVec.ofNat 16 i.length }

/-- For every form of ADC and SBC and every state with D set, valid BCD or not, exec answers the state the digit
formulas give: A the low byte, C from the adjusted sum, Z and N from the byte written, V for ADC from the sum before
the high-digit adjustment and for SBC from the byte written; PC is the next instruction and all else is unchanged but
for the reads of the mode having been made. The flags' convention and the integer reading of SBC are the spec's
decisions D7 and D8 (log 8, log 9). From 45_arithmetic_compare.md Add with carry; 45_arithmetic_compare.md Subtract
with carry; 92_eei_decisions.md D7; 92_eei_decisions.md D8. -/
def Obligations.AdcAndSbcDecimalFormulas : Prop :=
  ∀ (i : Instr) (s : State), s.p.d = true →
    let a := s.a.toNat
    let v := (s.am i.operand).value.toNat
    let c := s.p.c.toNat
    let result := fun (r8 : Byte) (cy ov : Bool) => exec i s = .next { s.afterMode i.operand with
      a := r8, p := { s.p with c := cy, v := ov, z := r8 == 0#8, n := bit r8 7 },
      pc := s.pc + BitVec.ofNat 16 i.length }
    (i.mnemonic = .adc →
      let low := a % 16 + v % 16 + c
      let res1 := (if low ≥ 10 then 16 + (low + 6) % 16 else low) + 16 * (a / 16) + 16 * (v / 16)
      let res := if res1 ≥ 0xA0 then res1 + 0x60 else res1
      result (BitVec.ofNat 8 res) (decide (res ≥ 0x100))
        (decide (a / 128 = v / 128) && decide (a / 128 ≠ res1 / 128 % 2))) ∧
    (i.mnemonic = .sbc →
      let low : Int := 15 + a % 16 - v % 16 + c
      let high : Int := (if low < 16 then 0 else 16) + 240 + 16 * (a / 16) - 16 * (v / 16)
      let res : Int := (if low < 16 then low - 6 else low - 16) + (if high < 256 then high - 96 else high)
      let r8 := BitVec.ofInt 8 res
      result r8 (decide (res ≥ 256)) (decide (a / 128 ≠ v / 128) && decide (a / 128 ≠ r8.toNat / 128)))

/-- For every form of ADC and SBC and every state with D set in which A and the value are valid BCD: A afterwards is
valid BCD and stands for the sum (or difference with borrow) modulo 100, and C says whether the sum reached 100 (or
whether no borrow occurred). From 45_arithmetic_compare.md Arithmetic laws; 95_test_vectors.md Part 1 law 8. -/
def Obligations.DecimalSumsOfValidDigits : Prop :=
  ∀ (i : Instr) (s : State),
    let v := (s.am i.operand).value
    let valid := fun b : Byte => b.toNat / 16 ≤ 9 ∧ b.toNat % 16 ≤ 9
    let num := fun b : Byte => 10 * (b.toNat / 16) + b.toNat % 16
    s.p.d = true → valid s.a → valid v →
      (i.mnemonic = .adc → ∃ t : State, exec i s = .next t ∧ valid t.a ∧
        num t.a = (num s.a + num v + s.p.c.toNat) % 100 ∧
        t.p.c = decide (num s.a + num v + s.p.c.toNat ≥ 100)) ∧
      (i.mnemonic = .sbc → ∃ t : State, exec i s = .next t ∧ valid t.a ∧
        num t.a = (num s.a + 99 + s.p.c.toNat - num v) % 100 ∧
        t.p.c = decide (num s.a + s.p.c.toNat ≥ num v + 1))

/-- For all flags, register and value: C afterwards says whether the register is at least the value, Z whether they
are equal, N is bit 7 of the difference modulo 256; V, I and D stay; and the result does not depend on the old C or on
D. No register is written: every CMP, CPX and CPY changes at most the flags and PC, the reads of its mode having been
made. Rules: R169. -/
def Obligations.CompareHelper : Prop :=
  (∀ (p : Flags) (r v : Byte),
      let d8 := BitVec.ofNat 8 ((r.toNat + 65536 - v.toNat) % 65536)
      p.compare r v = { p with c := decide (r.toNat ≥ v.toNat), z := d8 == 0#8, n := bit d8 7 } ∧
        ((p.compare r v).z = true ↔ r = v) ∧
        ∀ c d : Bool, ({ p with c := c, d := d } : Flags).compare r v = { p.compare r v with d := d }) ∧
    (∀ (i : Instr) (s t : State), i.mnemonic ∈ [.cmp, .cpx, .cpy] → exec i s = .next t →
      t = { s.afterMode i.operand with pc := t.pc, p := t.p })

/-- For every form of CMP, CPX and CPY and every state exec answers the state in which C says whether the register is
at least the operand, Z whether they are equal, N is bit 7 of their difference, PC is the next instruction, and all
else is unchanged but for the reads of the mode having been made. Which register each mnemonic compares is the spec's
general knowledge (log 6). From 45_arithmetic_compare.md Compare. -/
def Obligations.ComparesSetFlagsOnly : Prop :=
  ∀ (i : Instr) (s : State),
    let v := (s.am i.operand).value
    let result := fun r : Byte => exec i s = .next { s.afterMode i.operand with
      p := { s.p with c := decide (v.toNat ≤ r.toNat), z := r == v, n := bit (r - v) 7 },
      pc := s.pc + BitVec.ofNat 16 i.length }
    (i.mnemonic = .cmp → result s.a) ∧ (i.mnemonic = .cpx → result s.x) ∧ (i.mnemonic = .cpy → result s.y)

/-- For every form of INC and DEC and every state exec answers the state in which, after the reads of the mode, the
addressed byte plus or minus one modulo 256 is written once at the effective address; Z and N are those of that byte,
C and V stay, no register changes, PC is the next instruction; with a RAM and the invariant the effective address then
reads as that byte and every address of another cell as before. From 46_inc_dec.md increments and decrements. -/
def Obligations.IncAndDecOnMemory : Prop :=
  ∀ (i : Instr) (s : State),
    let am := s.am i.operand
    let stored := fun r : Byte =>
      let t : State := { (s.afterMode i.operand).write am.ea r with
        p := { s.p with z := r == 0#8, n := bit r 7 }, pc := s.pc + BitVec.ofNat 16 i.length }
      exec i s = .next t ∧ am.value = s.read am.ea ∧
        (s.Inv → s.device ≠ .attached →
          t.read am.ea = r ∧ ∀ a : Word, s.device.cell a ≠ s.device.cell am.ea → t.read a = s.read a)
    (i.mnemonic = .inc → stored (BitVec.ofNat 8 (am.value.toNat + 1))) ∧
      (i.mnemonic = .dec → stored (BitVec.ofNat 8 (am.value.toNat + 255)))

/-- For every state the four instructions answer the state in which X or Y is one more or one less modulo 256, Z and N
are those of it, PC is one further, and all else is unchanged. Which register each mnemonic names is the spec's
general knowledge (log 6). From 46_inc_dec.md increments and decrements. -/
def Obligations.IncAndDecOnRegisters : Prop :=
  ∀ s : State,
    let zn := fun v : Byte => { s.p with z := v == 0#8, n := bit v 7 }
    let next := s.pc + 1#16
    exec .inx s = .next { s with x := s.x + 1#8, p := zn (s.x + 1#8), pc := next } ∧
      exec .dex s = .next { s with x := s.x - 1#8, p := zn (s.x - 1#8), pc := next } ∧
      exec .iny s = .next { s with y := s.y + 1#8, p := zn (s.y + 1#8), pc := next } ∧
      exec .dey s = .next { s with y := s.y - 1#8, p := zn (s.y - 1#8), pc := next }

/-- For every state and offset each branch answers the state in which PC is the address after the branch plus the
signed offset, modulo 65,536, when its flag has its value, and the address after the branch when not; nothing else
changes. Which flag and value each mnemonic tests is the spec's general knowledge (log 6). From 47_branch_jump.md
Conditional branches. -/
def Obligations.BranchesTestOneFlag : Prop :=
  ∀ (s : State) (b : Byte),
    let go := fun taken : Bool =>
      ({ s with pc := BitVec.ofInt 16 ((s.pc.toNat : Int) + 2 + (if taken then b.toInt else 0)) } : State)
    exec (.bpl b) s = .next (go (!s.p.n)) ∧ exec (.bmi b) s = .next (go s.p.n) ∧
      exec (.bvc b) s = .next (go (!s.p.v)) ∧ exec (.bvs b) s = .next (go s.p.v) ∧
      exec (.bcc b) s = .next (go (!s.p.c)) ∧ exec (.bcs b) s = .next (go s.p.c) ∧
      exec (.bne b) s = .next (go (!s.p.z)) ∧ exec (.beq b) s = .next (go s.p.z)

/-- For every state and operand: JMP answers the state with PC at the operand, or for the Indirect form at the word
the pointer gives within its page; JSR answers the push of its own address plus 2 with PC at the operand; RTS answers
the state with SP two higher and PC at the pulled word plus 1; nothing else changes but for the reads having been
made, that of the byte at the target too (the spec's decision D5, log 11). From 47_branch_jump.md Jumps, call and
return; 92_eei_decisions.md D5. -/
def Obligations.JumpsCallAndReturn : Prop :=
  ∀ (s : State) (w : Word),
    let wh := BitVec.ofNat 16 (w.toNat / 256 * 256 + (w.toNat + 1) % 256)
    let target := word ((s.afterReads [w]).read wh) (s.read w)
    let slot := fun k : Byte => word 0x01#8 (s.sp + k)
    exec (.jmpAbsolute w) s = .next { s.afterReads [w] with pc := w } ∧
      exec (.jmpIndirect w) s = .next { s.afterReads [w, wh, target] with pc := target } ∧
      exec (.jsr w) s = .next { (s.afterReads [w]).pushWord (s.pc + 2#16) with pc := w } ∧
      exec .rts s = .next { s.afterReads [slot 1#8, slot 2#8] with
        sp := s.sp + 2#8
        pc := word ((s.afterReads [slot 1#8]).read (slot 2#8)) (s.read (slot 1#8)) + 1#16 }

/-- With a RAM, from every state that meets the invariant and for every target, JSR answers a state at the target from
which RTS answers one whose PC is the JSR's address + 3, with SP, A, X, Y and the flags as before and memory changed
only in the two stack slots. From 47_branch_jump.md Jumps, call and return. -/
def Obligations.JsrThenRtsReturns : Prop :=
  ∀ (s : State) (w : Word), s.Inv → s.device ≠ .attached →
    ∃ t u : State, exec (.jsr w) s = .next t ∧ t.pc = w ∧ exec .rts t = .next u ∧
      (∃ m : Memory, u = { s with pc := s.pc + 3#16, mem := m }) ∧
      ∀ a : Word, (∀ k ∈ [0#8, 1#8], s.device.cell a ≠ s.device.cell (word 0x01#8 (s.sp - k))) → u.read a = s.read a

/-- For every state each of the seven flag instructions answers the state in which its flag has its value and PC is
one further, nothing else changing; NOP answers the state in which only PC is one further. Which flag and value each
mnemonic writes is the spec's general knowledge (log 6). From 48_flag_nop.md flag instructions and no-operation. -/
def Obligations.FlagInstructionsAndNop : Prop :=
  ∀ s : State,
    let next := s.pc + 1#16
    exec .clc s = .next { s with p := { s.p with c := false }, pc := next } ∧
      exec .sec s = .next { s with p := { s.p with c := true }, pc := next } ∧
      exec .cld s = .next { s with p := { s.p with d := false }, pc := next } ∧
      exec .sed s = .next { s with p := { s.p with d := true }, pc := next } ∧
      exec .cli s = .next { s with p := { s.p with i := false }, pc := next } ∧
      exec .sei s = .next { s with p := { s.p with i := true }, pc := next } ∧
      exec .clv s = .next { s with p := { s.p with v := false }, pc := next } ∧
      exec .nop s = .next { s with pc := next }

/-- For every instruction and state: if A differs after it, it is one of LDA, PLA, TXA, TYA, AND, ORA, EOR, ADC, SBC
or an accumulator form of ASL, LSR, ROL, ROR; if X differs, LDX, TAX, TSX, INX or DEX; if Y differs, LDY, TAY, INY or
DEY; if SP differs, PHA, PHP, PLA, PLP, JSR, RTS, BRK, RTI or TXS; the device never differs. From 10_state.md section
2 General registers. -/
def Obligations.RegistersChangeOnlyByTheirWriters : Prop :=
  ∀ (i : Instr) (s t : State), exec i s = .next t →
    (t.a ≠ s.a → i.mnemonic ∈ [.lda, .pla, .txa, .tya, .and, .ora, .eor, .adc, .sbc] ∨
        i.mode = .accumulator ∧ i.mnemonic ∈ [.asl, .lsr, .rol, .ror]) ∧
      (t.x ≠ s.x → i.mnemonic ∈ [.ldx, .tax, .tsx, .inx, .dex]) ∧
      (t.y ≠ s.y → i.mnemonic ∈ [.ldy, .tay, .iny, .dey]) ∧
      (t.sp ≠ s.sp → i.mnemonic ∈ [.pha, .php, .pla, .plp, .jsr, .rts, .brk, .rti, .txs]) ∧
      t.device = s.device

/-- For every instruction and state, a flag that differs after it is written by one of the instructions its rule
lists: C by ADC, SBC, the compares, the shifts and rotates, CLC, SEC, PLP, RTI; Z and N by those with a result, BIT,
PLP, RTI; I by SEI, CLI, BRK, PLP, RTI; D by SED, CLD, PLP, RTI; V by ADC, SBC, BIT, CLV, PLP, RTI. From 10_state.md
section 4 Flags and the status byte. -/
def Obligations.FlagsChangeOnlyByTheirWriters : Prop :=
  ∀ (i : Instr) (s t : State), exec i s = .next t →
    let results : List Mnemonic := [.lda, .ldx, .ldy, .tax, .tay, .tsx, .txa, .tya, .pla, .and, .ora, .eor,
      .asl, .lsr, .rol, .ror, .adc, .sbc, .cmp, .cpx, .cpy, .inc, .dec, .inx, .dex, .iny, .dey, .bit, .plp, .rti]
    (t.p.c ≠ s.p.c → i.mnemonic ∈ [.adc, .sbc, .cmp, .cpx, .cpy, .asl, .lsr, .rol, .ror, .clc, .sec, .plp, .rti]) ∧
      (t.p.z ≠ s.p.z → i.mnemonic ∈ results) ∧
      (t.p.n ≠ s.p.n → i.mnemonic ∈ results) ∧
      (t.p.i ≠ s.p.i → i.mnemonic ∈ [.sei, .cli, .brk, .plp, .rti]) ∧
      (t.p.d ≠ s.p.d → i.mnemonic ∈ [.sed, .cld, .plp, .rti]) ∧
      (t.p.v ≠ s.p.v → i.mnemonic ∈ [.adc, .sbc, .bit, .clv, .plp, .rti])

/-- For every instruction and state: after any instruction but JMP, JSR, RTS, RTI, BRK and the branches, PC is its
address plus its length, modulo 65,536; after a branch it is that or the branch's effective address. The wrap of PC is
the spec's decision D3 (log 5). From 10_state.md section 3 Program counter; 92_eei_decisions.md D3. -/
def Obligations.PcAdvancesUnlessTransferred : Prop :=
  ∀ (i : Instr) (s t : State), exec i s = .next t →
    let next := BitVec.ofNat 16 (s.pc.toNat + i.length)
    i.mnemonic ∈ [.jmp, .jsr, .rts, .rti, .brk] ∨ t.pc = next ∨ (i.mode = .relative ∧ t.pc = (s.am i.operand).ea)

/-- For every instruction but ADC, SBC and the two that push the status (PHP, BRK), and every state: running it with D
given another value answers a state that differs at most in D itself; in the same way I has no effect on any
instruction but PHP and BRK. From 10_state.md section 4 Flags and the status byte; 45_arithmetic_compare.md Arithmetic
laws. -/
def Obligations.DecimalFlagIsReadOnlyByAdcSbcAndPushes : Prop :=
  ∀ (i : Instr) (s t : State) (b : Bool), exec i s = .next t →
    (i.mnemonic ∉ [.adc, .sbc, .php, .brk] → ∃ u : State,
        exec i { s with p := { s.p with d := b } } = .next u ∧
          ({ u with p := { u.p with d := false } } : State) = { t with p := { t.p with d := false } }) ∧
      (i.mnemonic ∉ [.php, .brk] → ∃ u : State,
        exec i { s with p := { s.p with i := b } } = .next u ∧
          ({ u with p := { u.p with i := false } } : State) = { t with p := { t.p with i := false } })

/-- For every STA, STX, STY, INC, DEC and every memory form of ASL, LSR, ROL, ROR: A, X, Y and SP are unchanged, and
with a RAM and the invariant every address that does not name the cell of the effective address reads after as before;
an attached memory sees the reads of the mode and one write at the effective address, and no other call. From
41_load_store_transfer.md Stores; 44_shift_rotate.md shifts and rotates; 46_inc_dec.md increments and decrements. -/
def Obligations.OperandStoresTouchOneCell : Prop :=
  ∀ (i : Instr) (s t : State), exec i s = .next t →
    i.mnemonic ∈ [.sta, .stx, .sty, .inc, .dec] ∨
      (i.mnemonic ∈ [.asl, .lsr, .rol, .ror] ∧ i.mode ≠ .accumulator) →
    (s.Inv → s.device ≠ .attached →
        ∀ a : Word, s.device.cell a ≠ s.device.cell (s.am i.operand).ea → t.read a = s.read a) ∧
      (s.device = .attached → ∃ v : Byte,
        t.calls = s.calls ++ (s.modeReads i.operand).map .read ++ [.write (s.am i.operand).ea v]) ∧
      t.a = s.a ∧ t.x = s.x ∧ t.y = s.y ∧ t.sp = s.sp

/-- A, X and Y are unchanged by PHA, PHP, JSR and BRK, and with a RAM, from every state that meets the invariant:
after PHA or PHP every address outside the cell of {0x01, SP} reads as before, after JSR every address outside the
cells of {0x01, SP} and {0x01, SP - 1}, after BRK every address outside those of {0x01, SP}, {0x01, SP - 1} and {0x01,
SP - 2}. From 42_stack.md stack instructions; 47_branch_jump.md Jumps, call and return; 49_brk_rti.md software
interrupt and return from interrupt. -/
def Obligations.PushesTouchOnlyTheirSlots : Prop :=
  ∀ (i : Instr) (s t : State), exec i s = .next t →
    let outside := fun (slots : List Byte) => s.Inv → s.device ≠ .attached → ∀ a : Word,
      (∀ k ∈ slots, s.device.cell a ≠ s.device.cell (word 0x01#8 (s.sp - k))) → t.read a = s.read a
    (i.mnemonic ∈ [.pha, .php] → outside [0#8]) ∧
      (i.mnemonic = .jsr → outside [0#8, 1#8]) ∧
      (i.mnemonic = .brk → outside [0#8, 1#8, 2#8]) ∧
      (i.mnemonic ∈ [.pha, .php, .jsr, .brk] → t.a = s.a ∧ t.x = s.x ∧ t.y = s.y)

/-- For every instruction but STA, STX, STY, INC, DEC, PHA, PHP, JSR, BRK and the memory forms of ASL, LSR, ROL, ROR,
and every state: the contents of memory are the same, with a RAM every address reads after as before, and an attached
memory sees reads alone. From 20_memory.md section 3 Ordering; 00_scope.md section 5 Modelling inventory. -/
def Obligations.OtherFormsStoreNothing : Prop :=
  ∀ (i : Instr) (s t : State), exec i s = .next t →
    i.mnemonic ∉ [.sta, .stx, .sty, .inc, .dec, .pha, .php, .jsr, .brk] →
    (i.mnemonic ∈ [.asl, .lsr, .rol, .ror] → i.mode = .accumulator) →
    t.mem = s.mem ∧ (s.device ≠ .attached → ∀ a : Word, t.read a = s.read a) ∧
      (s.device = .attached → ∃ reads : List Word, t.calls = s.calls ++ reads.map .read)

/-- For every step that answers a next state, the contents and the calls of memory after it are those before it with
the step's listed accesses made in order; the list is the read of the opcode at PC, then the reads of the operand
bytes and of the mode, then the operation's accesses; and the reads of each mode are written out: operand bytes at
ascending addresses, then the pointer, low byte first, then the byte at the effective address. The order of the reads
inside a mode is the spec's decision D4 and the read at the effective address of a store or jump its decision D5 (log
11); that a read is listed by its address alone is the model's choice (log 16). From 20_memory.md section 3 Ordering;
00_scope.md section 5 Modelling inventory; 92_eei_decisions.md D4; 92_eei_decisions.md D5. -/
def Obligations.StepMemoryIsItsBusWrites : Prop :=
  ∀ s t : State, step s = .next t →
    t.mem = ((stepAccesses s).foldl Access.apply s).mem ∧ t.calls = ((stepAccesses s).foldl Access.apply s).calls ∧
      ∃ i : Instr, s.decodeAt = .ok i ∧
        let f := s.fetched i
        let am := f.am i.operand
        let pc1 := s.pc + 1#16
        let pc2 := s.pc + 2#16
        stepAccesses s = .read s.pc :: (operandReads f pc1 i.operand).map .read ++
            operationAccesses i.mnemonic am s (s.pc + BitVec.ofNat 16 i.length) ∧
          operandReads f pc1 i.operand = match i.operand with
            | .accumulator => []
            | .implied => []
            | .immediate _ => [pc1]
            | .absolute w => [pc1, pc2, w]
            | .absoluteX w => [pc1, pc2, w + zext s.x]
            | .absoluteY w => [pc1, pc2, w + zext s.y]
            | .zeroPage b => [pc1, zext b]
            | .zeroPageX b => [pc1, zext (b + s.x)]
            | .zeroPageY b => [pc1, zext (b + s.y)]
            | .indirect w => [pc1, pc2, w, word (hi w) (lo w + 1#8), am.ea]
            | .indirectX b => [pc1, zext (b + s.x), zext (b + s.x + 1#8), am.ea]
            | .indirectY b => [pc1, zext b, zext (b + 1#8), am.ea]
            | .relative _ => [pc1]

/-- A read of a RAM changes nothing and a write only its contents; an attached memory keeps every call, oldest first,
and answers a read by the calls before it (log 19). For every state and transaction (reset, step, run_for,
trigger_irq, trigger_nmi) the contents and the calls of memory after it are those before it with the transaction's
listed accesses made in order, so an attached memory has seen exactly that list. Reset reads the reset vector, low
byte first; a step lists its own accesses; an IRQ with I set lists none; an IRQ with I clear, and every NMI, writes
the high and the low byte of PC and the status with B clear at {0x01, S}, {0x01, S - 1} and {0x01, S - 2}, then reads
its vector, low byte first. That a read is listed by its address alone is the model's choice (log 16). From
00_scope.md section 5 Modelling inventory; 20_memory.md section 1 The address space and the port; 20_memory.md section
3 Ordering; 60_exceptions.md section 2 Interrupt sources; 60_exceptions.md section 4 Trap entry; 92_eei_decisions.md
D14. -/
def Obligations.PortCallsOfEveryTransaction : Prop :=
  (∀ (s : State) (a : Word) (v : Byte),
      (s.device ≠ .attached → Access.apply s (.read a) = s ∧
        ∃ m : Memory, Access.apply s (.write a v) = { s with mem := m }) ∧
      (s.device = .attached → s.read a = Config.portByte s.calls a ∧
        Access.apply s (.read a) = { s with calls := s.calls ++ [.read a] } ∧
        Access.apply s (.write a v) = { s with calls := s.calls ++ [.write a v] })) ∧
    (∀ (s : State) (x : Transaction),
      let t := (s.accesses x).foldl Access.apply s
      (s.transact x).mem = t.mem ∧ (s.transact x).calls = t.calls ∧
        (s.device = .attached → (s.transact x).calls = s.calls ++ s.accesses x)) ∧
    (∀ s : State,
      let taken := fun vec : Word => [.write (word 0x01#8 s.sp) (BitVec.ofNat 8 (s.pc.toNat / 256)),
        .write (word 0x01#8 (s.sp - 1#8)) (BitVec.ofNat 8 s.pc.toNat),
        .write (word 0x01#8 (s.sp - 2#8)) (s.p.pushed false), .read vec, .read (vec + 1#16)]
      s.accesses .reset = [.read 0xFFFC#16, .read 0xFFFD#16] ∧ s.accesses .step = stepAccesses s ∧
        s.accesses .triggerIrq = (if s.p.i then [] else taken 0xFFFE#16) ∧
        s.accesses .triggerNmi = taken 0xFFFA#16)

/-- Every instruction has the base count the opcode map gives its mnemonic and mode, written out. For every
instruction and state: a branch reports 2 cycles not taken, 3 taken within the page of the next instruction and 4
taken to another, and it is taken exactly where exec sends PC to its target; the AbsoluteX, AbsoluteY and IndirectY
forms of ADC, AND, CMP, EOR, LDA, LDX, LDY, ORA and SBC report their base count and one more on a crossing; every
other instruction its base count. The map is the spec's general knowledge (decision D24, log 6), the counts and what
adds to them its decisions D9 and D10 (log 7). From 30_encoding.md section 2 The opcode map; 30_encoding.md section 5
Cycle counts; 92_eei_decisions.md D9; 92_eei_decisions.md D10; 92_eei_decisions.md D24. -/
def Obligations.CyclesOfAnInstruction : Prop :=
  let loads : List Mnemonic := [.lda, .ldx, .ldy, .and, .ora, .eor, .bit, .adc, .sbc, .cmp, .cpx, .cpy]
  let stores : List Mnemonic := [.sta, .stx, .sty]
  let modifies : List Mnemonic := [.asl, .lsr, .rol, .ror, .inc, .dec]
  let counts : List (List Mnemonic × List Mode × Nat) := [
    (loads, [.immediate], 2), (loads, [.zeroPage], 3), (loads, [.zeroPageX, .zeroPageY], 4), (loads, [.absolute], 4),
    (loads, [.absoluteX, .absoluteY], 4), (loads, [.indirectX], 6), (loads, [.indirectY], 5),
    (stores, [.zeroPage], 3), (stores, [.zeroPageX, .zeroPageY], 4), (stores, [.absolute], 4),
    (stores, [.absoluteX, .absoluteY], 5), (stores, [.indirectX, .indirectY], 6),
    (modifies, [.accumulator], 2), (modifies, [.zeroPage], 5), (modifies, [.zeroPageX], 6), (modifies, [.absolute], 6),
    (modifies, [.absoluteX], 7),
    ([.tax, .tay, .tsx, .txa, .txs, .tya, .inx, .dex, .iny, .dey, .clc, .sec, .cld, .sed, .cli, .sei, .clv, .nop],
      [.implied], 2),
    ([.pha, .php], [.implied], 3), ([.pla, .plp], [.implied], 4), ([.rts, .rti], [.implied], 6), ([.brk], [.implied], 7),
    ([.bcc, .bcs, .beq, .bne, .bmi, .bpl, .bvc, .bvs], [.relative], 2),
    ([.jmp], [.absolute], 3), ([.jmp], [.indirect], 5), ([.jsr], [.absolute], 6)]
  (∀ i : Instr, (∃ r ∈ counts, i.mnemonic ∈ r.1 ∧ i.mode ∈ r.2.1) ∧
      ∀ r ∈ counts, i.mnemonic ∈ r.1 → i.mode ∈ r.2.1 → baseCycles i = r.2.2) ∧
    ∀ (i : Instr) (s : State),
      let am := s.am i.operand
      let next := s.pc + BitVec.ofNat 16 i.length
      let taken := branchTaken i.mnemonic s.p
      let indexedRead := i.mnemonic ∈ [.adc, .and, .cmp, .eor, .lda, .ldx, .ldy, .ora, .sbc] ∧
        i.mode ∈ [.absoluteX, .absoluteY, .indirectY]
      (i.mode = .relative →
          instrCycles i s = (if taken then (if hi am.ea = hi next then 3 else 4) else 2) ∧
            exec i s = .next { s with pc := if taken then am.ea else next }) ∧
        (indexedRead → instrCycles i s = baseCycles i + (if am.crossed then 1 else 0)) ∧
        (i.mode ≠ .relative → ¬ indexedRead → instrCycles i s = baseCycles i)

/-- For every state and n >= 1 there is a run of k steps c 0, ..., c k from the state, each step answering the next,
such that run_for(n) either ends at c k with the sum of the k steps' cycles, that sum being at least n and at most n +
6 and the sum before the last step below n, and has made the accesses of the k steps in order; or it ends at the fault
of the step at c k, in c k with the opcode read made, with that sum, which is below n, and one cycle more, and has
made the accesses of the k + 1 steps. run_for(0), as far as the model's bound on steps carries it (log 14), is such a
run of that many steps or to the first fault. The counts are the spec's decision D17 (log 14). From
40_step_and_addressing.md section 1 The sequencer; 92_eei_decisions.md D17. -/
def Obligations.RunForStopsAtItsBudget : Prop :=
  (∀ (s : State) (n : Nat), 1 ≤ n →
      let r := s.runFor n
      ∃ (k : Nat) (c : Nat → State), Steps s k c ∧
        ((r.ending = .budgetSpent ∧ 1 ≤ k ∧ r.state = c k ∧ r.cycles = cyclesOf c k ∧ r.accesses = accessesOf c k ∧
            cyclesOf c (k - 1) < n ∧ n ≤ r.cycles ∧ r.cycles ≤ n + 6) ∨
          (∃ f : Fault, r.ending = .faulted f ∧ step (c k) = .fault f ∧ r.state = (c k).afterReads [(c k).pc] ∧
            r.cycles = cyclesOf c k + 1 ∧ r.accesses = accessesOf c (k + 1) ∧ cyclesOf c k < n))) ∧
    (∀ (s : State) (fuel : Nat),
      let r := s.runUnbounded fuel
      ∃ (k : Nat) (c : Nat → State), Steps s k c ∧
        ((r.ending = .outOfFuel ∧ k = fuel ∧ r.state = c k ∧ r.cycles = cyclesOf c k ∧ r.accesses = accessesOf c k) ∨
          (∃ f : Fault, r.ending = .faulted f ∧ step (c k) = .fault f ∧ r.state = (c k).afterReads [(c k).pc] ∧
            r.cycles = cyclesOf c k + 1 ∧ r.accesses = accessesOf c (k + 1))))

/-- When the instruction at PC is a JMP or a taken branch whose target is its own address, the step's accesses are all
reads and it answers the state in which they have been made and nothing else has changed; with a RAM that is the very
same state. This end-of-run condition is the customary one the spec names in decision D12 (log 15). From
70_reset_and_hazards.md section 4 The end of a run; 92_eei_decisions.md D12. -/
def Obligations.SelfJumpChangesNothing : Prop :=
  ∀ s : State, s.jumpsToItself = true →
    (∃ reads : List Word, stepAccesses s = reads.map .read ∧ step s = .next (s.afterReads reads)) ∧
      (s.device ≠ .attached → step s = .next s)
end

