-- ==== Sys2Proof/Laws/Bits.lean ====
section
/-! SUPPORT. Halves and extensions of words as numbers (00_scope.md R5, R6). -/

namespace Sys2Proof

theorem word_toNat (h l : Byte) : (word h l).toNat = 256 * h.toNat + l.toNat := by
  have hl := l.isLt
  simp only [word, BitVec.toNat_append]
  rw [← Nat.shiftLeft_add_eq_or_of_lt hl, Nat.shiftLeft_eq]
  omega

theorem lo_toNat (w : Word) : (lo w).toNat = w.toNat % 256 := by
  simp [lo, BitVec.extractLsb'_toNat]

theorem hi_toNat (w : Word) : (hi w).toNat = w.toNat / 256 := by
  have := w.isLt
  simp only [hi, BitVec.extractLsb'_toNat, Nat.shiftRight_eq_div_pow]
  omega

theorem zext_toNat (b : Byte) : (zext b).toNat = b.toNat := by
  have := b.isLt
  simp only [zext, BitVec.toNat_setWidth]
  omega

@[simp] theorem lo_word (h l : Byte) : lo (word h l) = l := by
  have := l.isLt
  apply BitVec.eq_of_toNat_eq
  rw [lo_toNat, word_toNat]
  omega

@[simp] theorem hi_word (h l : Byte) : hi (word h l) = h := by
  have := l.isLt
  apply BitVec.eq_of_toNat_eq
  rw [hi_toNat, word_toNat]
  omega

@[simp] theorem word_hi_lo (w : Word) : word (hi w) (lo w) = w := by
  apply BitVec.eq_of_toNat_eq
  rw [word_toNat, hi_toNat, lo_toNat]
  omega

/-- The sign-extended byte as a number: the two's-complement reading of R6. -/
theorem sext_toInt (b : Byte) : (sext b).toInt = b.toInt := BitVec.toInt_signExtend_of_le (by decide)

/-- Bit 7 of a byte is its size. -/
theorem bit_seven (v : Byte) : bit v 7 = decide (128 ≤ v.toNat) := by
  rw [bit, ← BitVec.msb_eq_getLsbD_last, BitVec.msb_eq_decide]

end Sys2Proof
end

