-- ==== Sys2Proof/Laws/Memory.lean ====
section
/-! SUPPORT. The laws of memory: what a read gives after a write, and that a write keeps the canonical form. -/

namespace Sys2Proof.Machine

theorem Memory.get_cons (a : Nat) (v : Byte) (m : Memory) (b : Nat) (h : v = Config.unlistedByte → Memory.get m a = v) :
    Memory.get (Memory.cons a v m) b = if b = a then v else Memory.get m b := by
  unfold Memory.cons
  split
  · next hv =>
    split
    · next hb => rw [hb, h hv]
    · rfl
  · rfl

/-- Below the first listed cell nothing is listed. -/
theorem Memory.get_below (size start : Nat) (m : Memory) (a : Nat) (hm : Memory.wfFrom size start m = true)
    (ha : a < start) : Memory.get m a = Config.unlistedByte := by
  induction m generalizing start with
  | nil => rfl
  | cons e m ih =>
    obtain ⟨k, b⟩ := e
    simp only [Memory.wfFrom, Bool.and_eq_true, decide_eq_true_eq] at hm
    have hne : a ≠ k := by omega
    simp only [Memory.get, if_neg hne]
    exact ih (k + 1) hm.2 (by omega)

theorem Memory.wfFrom_mono (size start start' : Nat) (m : Memory) (hm : Memory.wfFrom size start m = true)
    (h : start' ≤ start) : Memory.wfFrom size start' m = true := by
  cases m with
  | nil => rfl
  | cons e m =>
    obtain ⟨k, b⟩ := e
    simp only [Memory.wfFrom, Bool.and_eq_true, decide_eq_true_eq] at hm ⊢
    exact ⟨⟨⟨by omega, hm.1.1.2⟩, hm.1.2⟩, hm.2⟩

theorem Memory.wfFrom_cons (size start a : Nat) (v : Byte) (m : Memory) (hm : Memory.wfFrom size (a + 1) m = true)
    (h1 : start ≤ a) (h2 : a < size) : Memory.wfFrom size start (Memory.cons a v m) = true := by
  unfold Memory.cons
  split
  · exact Memory.wfFrom_mono size (a + 1) start m hm (by omega)
  · next hv => simp [Memory.wfFrom, h1, h2, hv, hm]

/-- A write gives its byte back at its own cell and leaves every other cell alone. -/
theorem Memory.get_set (size start : Nat) (m : Memory) (a : Nat) (v : Byte) (b : Nat)
    (hm : Memory.wfFrom size start m = true) :
    Memory.get (Memory.set m a v) b = if b = a then v else Memory.get m b := by
  induction m generalizing start with
  | nil => exact Memory.get_cons a v [] b (fun h => h.symm)
  | cons e m ih =>
    obtain ⟨k, w⟩ := e
    have hm' := hm
    simp only [Memory.wfFrom, Bool.and_eq_true, decide_eq_true_eq] at hm
    unfold Memory.set
    split
    · next hk =>
      refine Memory.get_cons a v _ b (fun h => ?_)
      rw [h, Memory.get_below size k ((k, w) :: m) a (by simp [Memory.wfFrom, hm.1.1.2, hm.1.2, hm.2]) hk]
    · split
      · next hk =>
        rw [Memory.get_cons a v m b (fun h => by rw [h, Memory.get_below size (k + 1) m a hm.2 (by omega)])]
        simp only [Memory.get, hk]
        split <;> rfl
      · next hlt hne =>
        simp only [Memory.get, ih (k + 1) hm.2]
        split
        · next hb => rw [if_neg (by omega)]
        · rfl

/-- A write keeps the canonical form. -/
theorem Memory.wfFrom_set (size start : Nat) (m : Memory) (a : Nat) (v : Byte) (hm : Memory.wfFrom size start m = true)
    (h1 : start ≤ a) (h2 : a < size) : Memory.wfFrom size start (Memory.set m a v) = true := by
  induction m generalizing start with
  | nil => exact Memory.wfFrom_cons size start a v [] rfl h1 h2
  | cons e m ih =>
    obtain ⟨k, w⟩ := e
    simp only [Memory.wfFrom, Bool.and_eq_true, decide_eq_true_eq] at hm
    unfold Memory.set
    split
    · next hk =>
      exact Memory.wfFrom_cons size start a v _
        (by simp [Memory.wfFrom, hm.1.1.2, hm.1.2, hm.2]; omega) h1 h2
    · split
      · next hk => exact Memory.wfFrom_cons size start a v m (hk ▸ hm.2) h1 h2
      · simp only [Memory.wfFrom, Bool.and_eq_true, decide_eq_true_eq]
        exact ⟨⟨⟨hm.1.1.1, hm.1.1.2⟩, hm.1.2⟩, ih (k + 1) hm.2 (by omega)⟩

theorem Memory.wf_set (size : Nat) (m : Memory) (a : Nat) (v : Byte) (hm : Memory.wf size m = true) (h : a < size) :
    Memory.wf size (Memory.set m a v) = true := Memory.wfFrom_set size 0 m a v hm (Nat.zero_le a) h

/-- The cells of a RAM are its address's remainders: plain RAM and every mirrored size is a power of two. -/
theorem Device.cell_eq_mod (d : Device) (h : d ≠ .attached) (a : Word) : d.cell a = a.toNat % d.size := by
  rcases d with _ | z | _
  · exact Nat.and_two_pow_sub_one_eq_mod a.toNat 16
  · cases z
    · exact Nat.and_two_pow_sub_one_eq_mod a.toNat 3
    · exact Nat.and_two_pow_sub_one_eq_mod a.toNat 4
    · exact Nat.and_two_pow_sub_one_eq_mod a.toNat 5
    · exact Nat.and_two_pow_sub_one_eq_mod a.toNat 6
    · exact Nat.and_two_pow_sub_one_eq_mod a.toNat 7
    · exact Nat.and_two_pow_sub_one_eq_mod a.toNat 10
  · exact (h rfl).elim

theorem Device.size_pos (d : Device) (h : d ≠ .attached) : 0 < d.size := by
  rcases d with _ | z | _
  · decide
  · cases z <;> decide
  · exact (h rfl).elim

/-- Every address names a cell of a RAM. -/
theorem Device.cell_lt (d : Device) (h : d ≠ .attached) (a : Word) : d.cell a < d.size := by
  rw [Device.cell_eq_mod d h]
  exact Nat.mod_lt _ (d.size_pos h)

/-! What the port of a RAM and of an attached memory does, so that no proof takes a device apart. -/

theorem Device.readByte_of_ram (d : Device) (h : d ≠ .attached) (m : Memory) (calls : List Access) (a : Word) :
    d.readByte m calls a = m.get (d.cell a) := by
  cases d
  · rfl
  · rfl
  · exact (h rfl).elim

theorem Device.writeByte_of_ram (d : Device) (h : d ≠ .attached) (m : Memory) (a : Word) (v : Byte) :
    d.writeByte m a v = m.set (d.cell a) v := by
  cases d
  · rfl
  · rfl
  · exact (h rfl).elim

/-- A RAM keeps no call. -/
theorem Device.record_of_ram (d : Device) (h : d ≠ .attached) (calls more : List Access) : d.record calls more = calls := by
  cases d
  · rfl
  · rfl
  · exact (h rfl).elim

@[simp] theorem Device.record_nil (d : Device) (calls : List Access) : d.record calls [] = calls := by
  cases d
  · rfl
  · rfl
  · exact List.append_nil calls

/-- Calls kept one part after another are the calls kept at once. -/
@[simp] theorem Device.record_record (d : Device) (calls l m : List Access) :
    d.record (d.record calls l) m = d.record calls (l ++ m) := by
  cases d
  · rfl
  · rfl
  · exact List.append_assoc calls l m

/-- A write keeps the canonical form, whatever the device. -/
theorem Device.wf_writeByte (d : Device) (m : Memory) (a : Word) (v : Byte) (hm : m.wf d.size = true) :
    (d.writeByte m a v).wf d.size = true := by
  by_cases h : d = .attached
  · subst h
    exact hm
  · rw [Device.writeByte_of_ram d h]
    exact Memory.wf_set d.size m _ v hm (d.cell_lt h a)

end Sys2Proof.Machine
end

