-- ==== Sys2Proof/Laws/State.lean ====
section
/-! SUPPORT. What each update of the state does to each field, one lemma per field per update, true by computation, so
that no proof unfolds a record update. -/

namespace Sys2Proof.Machine

@[simp] theorem State.afterReads_pc (s : State) (l : List Word) : (s.afterReads l).pc = s.pc := rfl
@[simp] theorem State.afterReads_sp (s : State) (l : List Word) : (s.afterReads l).sp = s.sp := rfl
@[simp] theorem State.afterReads_a (s : State) (l : List Word) : (s.afterReads l).a = s.a := rfl
@[simp] theorem State.afterReads_x (s : State) (l : List Word) : (s.afterReads l).x = s.x := rfl
@[simp] theorem State.afterReads_y (s : State) (l : List Word) : (s.afterReads l).y = s.y := rfl
@[simp] theorem State.afterReads_p (s : State) (l : List Word) : (s.afterReads l).p = s.p := rfl
@[simp] theorem State.afterReads_mem (s : State) (l : List Word) : (s.afterReads l).mem = s.mem := rfl
@[simp] theorem State.afterReads_device (s : State) (l : List Word) : (s.afterReads l).device = s.device := rfl
@[simp] theorem State.afterReads_calls (s : State) (l : List Word) : (s.afterReads l).calls = s.device.record s.calls (l.map .read) := rfl

@[simp] theorem State.afterMode_pc (s : State) (o : Operand) : (s.afterMode o).pc = s.pc := rfl
@[simp] theorem State.afterMode_sp (s : State) (o : Operand) : (s.afterMode o).sp = s.sp := rfl
@[simp] theorem State.afterMode_a (s : State) (o : Operand) : (s.afterMode o).a = s.a := rfl
@[simp] theorem State.afterMode_x (s : State) (o : Operand) : (s.afterMode o).x = s.x := rfl
@[simp] theorem State.afterMode_y (s : State) (o : Operand) : (s.afterMode o).y = s.y := rfl
@[simp] theorem State.afterMode_p (s : State) (o : Operand) : (s.afterMode o).p = s.p := rfl
@[simp] theorem State.afterMode_mem (s : State) (o : Operand) : (s.afterMode o).mem = s.mem := rfl
@[simp] theorem State.afterMode_device (s : State) (o : Operand) : (s.afterMode o).device = s.device := rfl
@[simp] theorem State.afterMode_calls (s : State) (o : Operand) : (s.afterMode o).calls = s.device.record s.calls ((s.modeReads o).map .read) := rfl

@[simp] theorem State.fetched_pc (s : State) (i : Instr) : (s.fetched i).pc = s.pc := rfl
@[simp] theorem State.fetched_sp (s : State) (i : Instr) : (s.fetched i).sp = s.sp := rfl
@[simp] theorem State.fetched_a (s : State) (i : Instr) : (s.fetched i).a = s.a := rfl
@[simp] theorem State.fetched_x (s : State) (i : Instr) : (s.fetched i).x = s.x := rfl
@[simp] theorem State.fetched_y (s : State) (i : Instr) : (s.fetched i).y = s.y := rfl
@[simp] theorem State.fetched_p (s : State) (i : Instr) : (s.fetched i).p = s.p := rfl
@[simp] theorem State.fetched_mem (s : State) (i : Instr) : (s.fetched i).mem = s.mem := rfl
@[simp] theorem State.fetched_device (s : State) (i : Instr) : (s.fetched i).device = s.device := rfl
@[simp] theorem State.fetched_calls (s : State) (i : Instr) : (s.fetched i).calls = s.device.record s.calls ((addressesFrom s.pc i.length).map .read) := rfl

@[simp] theorem State.afterFault_pc (s : State) : (s.afterFault).pc = s.pc := rfl
@[simp] theorem State.afterFault_sp (s : State) : (s.afterFault).sp = s.sp := rfl
@[simp] theorem State.afterFault_a (s : State) : (s.afterFault).a = s.a := rfl
@[simp] theorem State.afterFault_x (s : State) : (s.afterFault).x = s.x := rfl
@[simp] theorem State.afterFault_y (s : State) : (s.afterFault).y = s.y := rfl
@[simp] theorem State.afterFault_p (s : State) : (s.afterFault).p = s.p := rfl
@[simp] theorem State.afterFault_mem (s : State) : (s.afterFault).mem = s.mem := rfl
@[simp] theorem State.afterFault_device (s : State) : (s.afterFault).device = s.device := rfl
@[simp] theorem State.afterFault_calls (s : State) : (s.afterFault).calls = s.device.record s.calls [.read s.pc] := rfl

@[simp] theorem State.write_pc (s : State) (a : Word) (v : Byte) : (s.write a v).pc = s.pc := rfl
@[simp] theorem State.write_sp (s : State) (a : Word) (v : Byte) : (s.write a v).sp = s.sp := rfl
@[simp] theorem State.write_a (s : State) (a : Word) (v : Byte) : (s.write a v).a = s.a := rfl
@[simp] theorem State.write_x (s : State) (a : Word) (v : Byte) : (s.write a v).x = s.x := rfl
@[simp] theorem State.write_y (s : State) (a : Word) (v : Byte) : (s.write a v).y = s.y := rfl
@[simp] theorem State.write_p (s : State) (a : Word) (v : Byte) : (s.write a v).p = s.p := rfl
@[simp] theorem State.write_mem (s : State) (a : Word) (v : Byte) : (s.write a v).mem = s.device.writeByte s.mem a v := rfl
@[simp] theorem State.write_device (s : State) (a : Word) (v : Byte) : (s.write a v).device = s.device := rfl
@[simp] theorem State.write_calls (s : State) (a : Word) (v : Byte) : (s.write a v).calls = s.device.record s.calls [.write a v] := rfl

@[simp] theorem State.pushByte_pc (s : State) (v : Byte) : (s.pushByte v).pc = s.pc := rfl
@[simp] theorem State.pushByte_sp (s : State) (v : Byte) : (s.pushByte v).sp = s.sp - 1#8 := rfl
@[simp] theorem State.pushByte_a (s : State) (v : Byte) : (s.pushByte v).a = s.a := rfl
@[simp] theorem State.pushByte_x (s : State) (v : Byte) : (s.pushByte v).x = s.x := rfl
@[simp] theorem State.pushByte_y (s : State) (v : Byte) : (s.pushByte v).y = s.y := rfl
@[simp] theorem State.pushByte_p (s : State) (v : Byte) : (s.pushByte v).p = s.p := rfl
@[simp] theorem State.pushByte_mem (s : State) (v : Byte) : (s.pushByte v).mem = s.device.writeByte s.mem (stackAddr s.sp) v := rfl
@[simp] theorem State.pushByte_device (s : State) (v : Byte) : (s.pushByte v).device = s.device := rfl
@[simp] theorem State.pushByte_calls (s : State) (v : Byte) : (s.pushByte v).calls = s.device.record s.calls [.write (stackAddr s.sp) v] := rfl

@[simp] theorem State.pushWord_pc (s : State) (w : Word) : (s.pushWord w).pc = s.pc := rfl
@[simp] theorem State.pushWord_sp (s : State) (w : Word) : (s.pushWord w).sp = s.sp - 1#8 - 1#8 := rfl
@[simp] theorem State.pushWord_a (s : State) (w : Word) : (s.pushWord w).a = s.a := rfl
@[simp] theorem State.pushWord_x (s : State) (w : Word) : (s.pushWord w).x = s.x := rfl
@[simp] theorem State.pushWord_y (s : State) (w : Word) : (s.pushWord w).y = s.y := rfl
@[simp] theorem State.pushWord_p (s : State) (w : Word) : (s.pushWord w).p = s.p := rfl
@[simp] theorem State.pushWord_mem (s : State) (w : Word) : (s.pushWord w).mem = ((s.pushByte (hi w)).pushByte (lo w)).mem := rfl
@[simp] theorem State.pushWord_device (s : State) (w : Word) : (s.pushWord w).device = s.device := rfl
@[simp] theorem State.pushWord_calls (s : State) (w : Word) : (s.pushWord w).calls = ((s.pushByte (hi w)).pushByte (lo w)).calls := rfl

@[simp] theorem State.pushStatus_pc (s : State) (b : Bool) : (s.pushStatus b).pc = s.pc := rfl
@[simp] theorem State.pushStatus_sp (s : State) (b : Bool) : (s.pushStatus b).sp = s.sp - 1#8 := rfl
@[simp] theorem State.pushStatus_a (s : State) (b : Bool) : (s.pushStatus b).a = s.a := rfl
@[simp] theorem State.pushStatus_x (s : State) (b : Bool) : (s.pushStatus b).x = s.x := rfl
@[simp] theorem State.pushStatus_y (s : State) (b : Bool) : (s.pushStatus b).y = s.y := rfl
@[simp] theorem State.pushStatus_p (s : State) (b : Bool) : (s.pushStatus b).p = s.p := rfl
@[simp] theorem State.pushStatus_mem (s : State) (b : Bool) : (s.pushStatus b).mem = s.device.writeByte s.mem (stackAddr s.sp) (s.p.pushed b) := rfl
@[simp] theorem State.pushStatus_device (s : State) (b : Bool) : (s.pushStatus b).device = s.device := rfl
@[simp] theorem State.pushStatus_calls (s : State) (b : Bool) : (s.pushStatus b).calls = s.device.record s.calls [.write (stackAddr s.sp) (s.p.pushed b)] := rfl

@[simp] theorem State.popped_pc (s : State) : (s.popped).pc = s.pc := rfl
@[simp] theorem State.popped_sp (s : State) : (s.popped).sp = s.sp + 1#8 := rfl
@[simp] theorem State.popped_a (s : State) : (s.popped).a = s.a := rfl
@[simp] theorem State.popped_x (s : State) : (s.popped).x = s.x := rfl
@[simp] theorem State.popped_y (s : State) : (s.popped).y = s.y := rfl
@[simp] theorem State.popped_p (s : State) : (s.popped).p = s.p := rfl
@[simp] theorem State.popped_mem (s : State) : (s.popped).mem = s.mem := rfl
@[simp] theorem State.popped_device (s : State) : (s.popped).device = s.device := rfl
@[simp] theorem State.popped_calls (s : State) : (s.popped).calls = s.device.record s.calls [.read (stackAddr (s.sp + 1#8))] := rfl

@[simp] theorem State.pullStatus_pc (s : State) : (s.pullStatus).pc = s.pc := rfl
@[simp] theorem State.pullStatus_sp (s : State) : (s.pullStatus).sp = s.sp + 1#8 := rfl
@[simp] theorem State.pullStatus_a (s : State) : (s.pullStatus).a = s.a := rfl
@[simp] theorem State.pullStatus_x (s : State) : (s.pullStatus).x = s.x := rfl
@[simp] theorem State.pullStatus_y (s : State) : (s.pullStatus).y = s.y := rfl
@[simp] theorem State.pullStatus_p (s : State) : (s.pullStatus).p = Flags.ofByte s.pulledByte := rfl
@[simp] theorem State.pullStatus_mem (s : State) : (s.pullStatus).mem = s.mem := rfl
@[simp] theorem State.pullStatus_device (s : State) : (s.pullStatus).device = s.device := rfl
@[simp] theorem State.pullStatus_calls (s : State) : (s.pullStatus).calls = s.device.record s.calls [.read (stackAddr (s.sp + 1#8))] := rfl

@[simp] theorem State.interrupt_pc (s : State) (ret : Word) (b : Bool) (vec : Word) : (s.interrupt ret b vec).pc = ((s.pushWord ret).pushStatus b).read16 vec := rfl
@[simp] theorem State.interrupt_sp (s : State) (ret : Word) (b : Bool) (vec : Word) : (s.interrupt ret b vec).sp = s.sp - 1#8 - 1#8 - 1#8 := rfl
@[simp] theorem State.interrupt_a (s : State) (ret : Word) (b : Bool) (vec : Word) : (s.interrupt ret b vec).a = s.a := rfl
@[simp] theorem State.interrupt_x (s : State) (ret : Word) (b : Bool) (vec : Word) : (s.interrupt ret b vec).x = s.x := rfl
@[simp] theorem State.interrupt_y (s : State) (ret : Word) (b : Bool) (vec : Word) : (s.interrupt ret b vec).y = s.y := rfl
@[simp] theorem State.interrupt_p (s : State) (ret : Word) (b : Bool) (vec : Word) : (s.interrupt ret b vec).p = { s.p with i := true } := rfl
@[simp] theorem State.interrupt_mem (s : State) (ret : Word) (b : Bool) (vec : Word) : (s.interrupt ret b vec).mem = ((s.pushWord ret).pushStatus b).mem := rfl
@[simp] theorem State.interrupt_device (s : State) (ret : Word) (b : Bool) (vec : Word) : (s.interrupt ret b vec).device = s.device := rfl
@[simp] theorem State.interrupt_calls (s : State) (ret : Word) (b : Bool) (vec : Word) : (s.interrupt ret b vec).calls = (((s.pushWord ret).pushStatus b).afterReads [vec, vec + 1#16]).calls := rfl

@[simp] theorem State.returnFromInterrupt_pc (s : State) : (s.returnFromInterrupt).pc = s.pullStatus.pulledWord := rfl
@[simp] theorem State.returnFromInterrupt_sp (s : State) : (s.returnFromInterrupt).sp = s.sp + 1#8 + 1#8 + 1#8 := rfl
@[simp] theorem State.returnFromInterrupt_a (s : State) : (s.returnFromInterrupt).a = s.a := rfl
@[simp] theorem State.returnFromInterrupt_x (s : State) : (s.returnFromInterrupt).x = s.x := rfl
@[simp] theorem State.returnFromInterrupt_y (s : State) : (s.returnFromInterrupt).y = s.y := rfl
@[simp] theorem State.returnFromInterrupt_p (s : State) : (s.returnFromInterrupt).p = Flags.ofByte s.pulledByte := rfl
@[simp] theorem State.returnFromInterrupt_mem (s : State) : (s.returnFromInterrupt).mem = s.mem := rfl
@[simp] theorem State.returnFromInterrupt_device (s : State) : (s.returnFromInterrupt).device = s.device := rfl
@[simp] theorem State.returnFromInterrupt_calls (s : State) : (s.returnFromInterrupt).calls = s.pullStatus.popped.popped.calls := rfl

@[simp] theorem State.resetNow_pc (s : State) : (s.resetNow).pc = s.read16 Config.resetVector := rfl
@[simp] theorem State.resetNow_sp (s : State) : (s.resetNow).sp = Config.resetSp := rfl
@[simp] theorem State.resetNow_a (s : State) : (s.resetNow).a = 0#8 := rfl
@[simp] theorem State.resetNow_x (s : State) : (s.resetNow).x = 0#8 := rfl
@[simp] theorem State.resetNow_y (s : State) : (s.resetNow).y = 0#8 := rfl
@[simp] theorem State.resetNow_p (s : State) : (s.resetNow).p = ⟨false, false, true, false, false, false⟩ := rfl
@[simp] theorem State.resetNow_mem (s : State) : (s.resetNow).mem = s.mem := rfl
@[simp] theorem State.resetNow_device (s : State) : (s.resetNow).device = s.device := rfl
@[simp] theorem State.resetNow_calls (s : State) : (s.resetNow).calls = s.device.record s.calls [.read Config.resetVector, .read (Config.resetVector + 1#16)] := rfl

@[simp] theorem State.setA_pc (s : State) (r : Byte) : (s.setA r).pc = s.pc := rfl
@[simp] theorem State.setA_sp (s : State) (r : Byte) : (s.setA r).sp = s.sp := rfl
@[simp] theorem State.setA_a (s : State) (r : Byte) : (s.setA r).a = r := rfl
@[simp] theorem State.setA_x (s : State) (r : Byte) : (s.setA r).x = s.x := rfl
@[simp] theorem State.setA_y (s : State) (r : Byte) : (s.setA r).y = s.y := rfl
@[simp] theorem State.setA_p (s : State) (r : Byte) : (s.setA r).p = s.p.setZN r := rfl
@[simp] theorem State.setA_mem (s : State) (r : Byte) : (s.setA r).mem = s.mem := rfl
@[simp] theorem State.setA_device (s : State) (r : Byte) : (s.setA r).device = s.device := rfl
@[simp] theorem State.setA_calls (s : State) (r : Byte) : (s.setA r).calls = s.calls := rfl

@[simp] theorem Flags.setZN_c (p : Flags) (r : Byte) : (p.setZN r).c = p.c := rfl
@[simp] theorem Flags.setZN_z (p : Flags) (r : Byte) : (p.setZN r).z = (r == 0#8) := rfl
@[simp] theorem Flags.setZN_i (p : Flags) (r : Byte) : (p.setZN r).i = p.i := rfl
@[simp] theorem Flags.setZN_d (p : Flags) (r : Byte) : (p.setZN r).d = p.d := rfl
@[simp] theorem Flags.setZN_v (p : Flags) (r : Byte) : (p.setZN r).v = p.v := rfl
@[simp] theorem Flags.setZN_n (p : Flags) (r : Byte) : (p.setZN r).n = bit r 7 := rfl

@[simp] theorem Flags.ofSum_c (p : Flags) (r : Sum) : (p.ofSum r).c = r.carry := rfl
@[simp] theorem Flags.ofSum_z (p : Flags) (r : Sum) : (p.ofSum r).z = (r.result == 0#8) := rfl
@[simp] theorem Flags.ofSum_i (p : Flags) (r : Sum) : (p.ofSum r).i = p.i := rfl
@[simp] theorem Flags.ofSum_d (p : Flags) (r : Sum) : (p.ofSum r).d = p.d := rfl
@[simp] theorem Flags.ofSum_v (p : Flags) (r : Sum) : (p.ofSum r).v = r.overflow := rfl
@[simp] theorem Flags.ofSum_n (p : Flags) (r : Sum) : (p.ofSum r).n = bit r.result 7 := rfl

@[simp] theorem Flags.ofShift_c (p : Flags) (r : Shifted) : (p.ofShift r).c = r.carry := rfl
@[simp] theorem Flags.ofShift_z (p : Flags) (r : Shifted) : (p.ofShift r).z = (r.result == 0#8) := rfl
@[simp] theorem Flags.ofShift_i (p : Flags) (r : Shifted) : (p.ofShift r).i = p.i := rfl
@[simp] theorem Flags.ofShift_d (p : Flags) (r : Shifted) : (p.ofShift r).d = p.d := rfl
@[simp] theorem Flags.ofShift_v (p : Flags) (r : Shifted) : (p.ofShift r).v = p.v := rfl
@[simp] theorem Flags.ofShift_n (p : Flags) (r : Shifted) : (p.ofShift r).n = bit r.result 7 := rfl

@[simp] theorem Flags.compare_c (p : Flags) (r v : Byte) : (p.compare r v).c = decide (r.toNat ≥ v.toNat) := rfl
@[simp] theorem Flags.compare_z (p : Flags) (r v : Byte) : (p.compare r v).z = (BitVec.ofNat 8 ((r.toNat + 65536 - v.toNat) % 65536 &&& 0xFF) == 0#8) := rfl
@[simp] theorem Flags.compare_i (p : Flags) (r v : Byte) : (p.compare r v).i = p.i := rfl
@[simp] theorem Flags.compare_d (p : Flags) (r v : Byte) : (p.compare r v).d = p.d := rfl
@[simp] theorem Flags.compare_v (p : Flags) (r v : Byte) : (p.compare r v).v = p.v := rfl
@[simp] theorem Flags.compare_n (p : Flags) (r v : Byte) : (p.compare r v).n = bit (BitVec.ofNat 8 ((r.toNat + 65536 - v.toNat) % 65536 &&& 0xFF)) 7 := rfl

@[simp] theorem Flags.bitTest_c (p : Flags) (a v : Byte) : (p.bitTest a v).c = p.c := rfl
@[simp] theorem Flags.bitTest_z (p : Flags) (a v : Byte) : (p.bitTest a v).z = ((v &&& a) == 0#8) := rfl
@[simp] theorem Flags.bitTest_i (p : Flags) (a v : Byte) : (p.bitTest a v).i = p.i := rfl
@[simp] theorem Flags.bitTest_d (p : Flags) (a v : Byte) : (p.bitTest a v).d = p.d := rfl
@[simp] theorem Flags.bitTest_v (p : Flags) (a v : Byte) : (p.bitTest a v).v = bit v 6 := rfl
@[simp] theorem Flags.bitTest_n (p : Flags) (a v : Byte) : (p.bitTest a v).n = bit v 7 := rfl

end Sys2Proof.Machine
end

