-- ==== Sys2Proof/Laws/Ops.lean ====
section
/-! SUPPORT. What each shared operation does to the bytes of memory and to the calls on the port, and that it keeps the
invariant. -/

namespace Sys2Proof.Machine

/-- Reading depends on the memory, the device and its calls alone. -/
theorem State.read_congr (s t : State) (hm : t.mem = s.mem) (hd : t.device = s.device) (hc : t.calls = s.calls) (a : Word) :
    t.read a = s.read a := by simp only [State.read, hm, hd, hc]

/-- A read of RAM changes nothing (20_memory.md R45). -/
theorem State.afterReads_of_ram (s : State) (h : s.device ≠ .attached) (l : List Word) : s.afterReads l = s := by
  unfold State.afterReads
  rw [Device.record_of_ram _ h]

theorem State.afterMode_of_ram (s : State) (h : s.device ≠ .attached) (o : Operand) : s.afterMode o = s :=
  s.afterReads_of_ram h _

theorem State.fetched_of_ram (s : State) (h : s.device ≠ .attached) (i : Instr) : s.fetched i = s :=
  s.afterReads_of_ram h _

@[simp] theorem State.afterReads_nil (s : State) : s.afterReads [] = s := by
  unfold State.afterReads
  rw [List.map_nil, Device.record_nil]

/-- Reads one part after another are the reads at once. -/
@[simp] theorem State.afterReads_afterReads (s : State) (l m : List Word) :
    (s.afterReads l).afterReads m = s.afterReads (l ++ m) := by
  simp only [State.afterReads, Device.record_record, List.map_append]

/-- In RAM, what a read gives does not depend on the calls. -/
theorem State.read_of_ram (s : State) (h : s.device ≠ .attached) (a : Word) : s.read a = s.mem.get (s.device.cell a) :=
  Device.readByte_of_ram _ h _ _ _

/-- What a read of RAM gives after a write, cell by cell. -/
theorem State.read_write_cell (s : State) (hd : s.device ≠ .attached) (h : s.Inv) (a : Word) (v : Byte) (b : Word) :
    (s.write a v).read b = if s.device.cell b = s.device.cell a then v else s.read b := by
  rw [State.read_of_ram (s.write a v) hd b, State.read_of_ram s hd b, State.write_mem, State.write_device,
    Device.writeByte_of_ram _ hd]
  exact Memory.get_set s.device.size 0 s.mem _ v _ h.1

/-- Whatever is recorded, a RAM keeps no call. -/
theorem Device.record_inv (d : Device) (calls more : List Access) (h : d ≠ .attached → calls = []) :
    d ≠ .attached → d.record calls more = [] := fun hd => by rw [Device.record_of_ram d hd, h hd]

theorem State.write_inv (s : State) (h : s.Inv) (a : Word) (v : Byte) : (s.write a v).Inv :=
  ⟨Device.wf_writeByte _ _ _ _ h.1, Device.record_inv _ _ _ h.2⟩

theorem State.afterReads_inv (s : State) (h : s.Inv) (l : List Word) : (s.afterReads l).Inv :=
  ⟨h.1, Device.record_inv _ _ _ h.2⟩

/-- The invariant depends on the memory, the device and its calls alone. -/
theorem State.inv_congr (s t : State) (h : s.Inv) (hm : t.mem = s.mem) (hd : t.device = s.device) (hc : t.calls = s.calls) :
    t.Inv := by
  unfold State.Inv
  rw [hm, hd, hc]
  exact h

theorem State.pushByte_inv (s : State) (h : s.Inv) (v : Byte) : (s.pushByte v).Inv :=
  State.inv_congr (s.write (stackAddr s.sp) v) _ (s.write_inv h _ v) rfl rfl rfl

theorem State.pushWord_inv (s : State) (h : s.Inv) (w : Word) : (s.pushWord w).Inv :=
  (s.pushByte (hi w)).pushByte_inv (s.pushByte_inv h _) _

theorem State.popped_inv (s : State) (h : s.Inv) : s.popped.Inv := s.afterReads_inv h [stackAddr (s.sp + 1#8)]

theorem State.interrupt_inv (s : State) (h : s.Inv) (ret : Word) (b : Bool) (vec : Word) : (s.interrupt ret b vec).Inv :=
  ((s.pushWord ret).pushStatus b).afterReads_inv ((s.pushWord ret).pushByte_inv (s.pushWord_inv h ret) _) [vec, vec + 1#16]

theorem State.store_inv (s : State) (h : s.Inv) (am : Am) (v : Byte) : (s.store am v).Inv := by
  unfold State.store
  split
  · exact State.inv_congr s _ h rfl rfl rfl
  · exact s.write_inv h am.ea v

/-- What a read of RAM gives after a push. -/
theorem State.read_pushByte_cell (s : State) (hd : s.device ≠ .attached) (h : s.Inv) (v : Byte) (b : Word) :
    (s.pushByte v).read b = if s.device.cell b = s.device.cell (stackAddr s.sp) then v else s.read b :=
  s.read_write_cell hd h (stackAddr s.sp) v b

/-- The slot of a stack pointer, as a number. -/
theorem stackAddr_toNat (sp : Byte) : (stackAddr sp).toNat = 256 + sp.toNat := by
  have h : stackAddr sp = 256#16 + sp.setWidth 16 := by
    unfold stackAddr word Config.stackPage
    exact (by decide : ∀ sp : BitVec 8, (0x01#8 ++ sp : BitVec 16) = 256#16 + sp.setWidth 16) sp
  have := sp.isLt
  rw [h, BitVec.toNat_add, BitVec.toNat_setWidth]
  simp only [BitVec.toNat_ofNat]
  omega

/-- Two different slots less than eight below the same stack pointer are different cells of every RAM. -/
theorem stackAddr_cell_ne (d : Device) (hd : d ≠ .attached) (sp j k : Byte) (hj : j.toNat < 8) (hk : k.toNat < 8)
    (hne : j ≠ k) : d.cell (stackAddr (sp - j)) ≠ d.cell (stackAddr (sp - k)) := by
  simp only [Device.cell_eq_mod d hd, stackAddr_toNat, BitVec.toNat_sub]
  have := sp.isLt
  have : j.toNat ≠ k.toNat := fun h => hne (BitVec.eq_of_toNat_eq h)
  rcases d with _ | z | _
  · simp only [Device.size]; omega
  · cases z <;> simp only [Device.size, MirrorSize.bytes] <;> omega
  · exact (hd rfl).elim

/-- The two slots a pushed word lies in, and what it leaves alone (R96). -/
theorem State.read_pushWord_high (s : State) (hd : s.device ≠ .attached) (h : s.Inv) (w : Word) :
    (s.pushWord w).read (stackAddr s.sp) = hi w := by
  unfold State.pushWord
  have hne := stackAddr_cell_ne s.device hd s.sp 0#8 1#8 (by decide) (by decide) (by decide)
  rw [State.read_pushByte_cell (s.pushByte (hi w)) hd (s.pushByte_inv h _), if_neg, State.read_pushByte_cell s hd h,
    if_pos rfl]
  simpa using hne

theorem State.read_pushWord_low (s : State) (hd : s.device ≠ .attached) (h : s.Inv) (w : Word) :
    (s.pushWord w).read (stackAddr (s.sp - 1#8)) = lo w := by
  unfold State.pushWord
  rw [State.read_pushByte_cell (s.pushByte (hi w)) hd (s.pushByte_inv h _), if_pos]
  rfl

theorem State.read_pushWord_other (s : State) (hd : s.device ≠ .attached) (h : s.Inv) (w : Word) (a : Word)
    (h0 : s.device.cell a ≠ s.device.cell (stackAddr s.sp))
    (h1 : s.device.cell a ≠ s.device.cell (stackAddr (s.sp - 1#8))) : (s.pushWord w).read a = s.read a := by
  unfold State.pushWord
  rw [State.read_pushByte_cell (s.pushByte (hi w)) hd (s.pushByte_inv h _), if_neg, State.read_pushByte_cell s hd h,
    if_neg h0]
  exact h1

/-- What a read of RAM gives after an interrupt is taken: the status in its slot, the return address as pushed (R220). -/
theorem State.read_interrupt (s : State) (hd : s.device ≠ .attached) (h : s.Inv) (ret : Word) (b : Bool) (vec a : Word) :
    (s.interrupt ret b vec).read a =
      if s.device.cell a = s.device.cell (stackAddr (s.sp - 2#8)) then s.p.pushed b else (s.pushWord ret).read a := by
  have hs : (s.pushWord ret).sp = s.sp - 2#8 := by
    show s.sp - 1#8 - 1#8 = s.sp - 2#8
    bv_omega
  have hr : (s.interrupt ret b vec).read a = ((s.pushWord ret).pushStatus b).read a := by
    rw [State.read_of_ram (s.interrupt ret b vec) hd, State.read_of_ram ((s.pushWord ret).pushStatus b) hd]
    rfl
  rw [hr, State.pushStatus, State.read_pushByte_cell (s.pushWord ret) hd (s.pushWord_inv h _), hs]
  rfl

end Sys2Proof.Machine
end

