-- ==== Sys2Proof/Laws/PerInstr.lean ====
section
/-! SUPPORT. One lemma per instruction: its written form is well formed, its parts assemble to it again, its length is
one to three bytes, and the opcode map has the row it encodes with. -/

namespace Sys2Proof.Laws.Shape

/-- An instruction is well formed, is what its mnemonic and operand assemble to, encodes to as many bytes as its
length, and the row of its opcode names its mnemonic and mode (30_encoding.md R60 to R63). -/
def Statement (i : Instr) : Prop :=
  i.wellFormed = true ∧ assemble i.mnemonic i.operand = some i ∧ (encode i).length = i.length
    ∧ ∃ cycles penalty, rowOf i.opcode = some ⟨i.opcode, i.mnemonic, i.mode, cycles, penalty⟩

theorem ldaImmediate (b : Byte) : Statement (.ldaImmediate b) :=
  ⟨rfl, rfl, rfl, _, _, (by decide : rowOf 0xA9#8 = some ⟨0xA9#8, .lda, .immediate, 2, false⟩)⟩
theorem ldaAbsolute (w : Word) : Statement (.ldaAbsolute w) :=
  ⟨rfl, rfl, rfl, _, _, (by decide : rowOf 0xAD#8 = some ⟨0xAD#8, .lda, .absolute, 4, false⟩)⟩
theorem ldaAbsoluteX (w : Word) : Statement (.ldaAbsoluteX w) :=
  ⟨rfl, rfl, rfl, _, _, (by decide : rowOf 0xBD#8 = some ⟨0xBD#8, .lda, .absoluteX, 4, true⟩)⟩
theorem ldaAbsoluteY (w : Word) : Statement (.ldaAbsoluteY w) :=
  ⟨rfl, rfl, rfl, _, _, (by decide : rowOf 0xB9#8 = some ⟨0xB9#8, .lda, .absoluteY, 4, true⟩)⟩
theorem ldaZeroPage (b : Byte) : Statement (.ldaZeroPage b) :=
  ⟨rfl, rfl, rfl, _, _, (by decide : rowOf 0xA5#8 = some ⟨0xA5#8, .lda, .zeroPage, 3, false⟩)⟩
theorem ldaZeroPageX (b : Byte) : Statement (.ldaZeroPageX b) :=
  ⟨rfl, rfl, rfl, _, _, (by decide : rowOf 0xB5#8 = some ⟨0xB5#8, .lda, .zeroPageX, 4, false⟩)⟩
theorem ldaIndirectX (b : Byte) : Statement (.ldaIndirectX b) :=
  ⟨rfl, rfl, rfl, _, _, (by decide : rowOf 0xA1#8 = some ⟨0xA1#8, .lda, .indirectX, 6, false⟩)⟩
theorem ldaIndirectY (b : Byte) : Statement (.ldaIndirectY b) :=
  ⟨rfl, rfl, rfl, _, _, (by decide : rowOf 0xB1#8 = some ⟨0xB1#8, .lda, .indirectY, 5, true⟩)⟩
theorem ldxImmediate (b : Byte) : Statement (.ldxImmediate b) :=
  ⟨rfl, rfl, rfl, _, _, (by decide : rowOf 0xA2#8 = some ⟨0xA2#8, .ldx, .immediate, 2, false⟩)⟩
theorem ldxAbsolute (w : Word) : Statement (.ldxAbsolute w) :=
  ⟨rfl, rfl, rfl, _, _, (by decide : rowOf 0xAE#8 = some ⟨0xAE#8, .ldx, .absolute, 4, false⟩)⟩
theorem ldxAbsoluteY (w : Word) : Statement (.ldxAbsoluteY w) :=
  ⟨rfl, rfl, rfl, _, _, (by decide : rowOf 0xBE#8 = some ⟨0xBE#8, .ldx, .absoluteY, 4, true⟩)⟩
theorem ldxZeroPage (b : Byte) : Statement (.ldxZeroPage b) :=
  ⟨rfl, rfl, rfl, _, _, (by decide : rowOf 0xA6#8 = some ⟨0xA6#8, .ldx, .zeroPage, 3, false⟩)⟩
theorem ldxZeroPageY (b : Byte) : Statement (.ldxZeroPageY b) :=
  ⟨rfl, rfl, rfl, _, _, (by decide : rowOf 0xB6#8 = some ⟨0xB6#8, .ldx, .zeroPageY, 4, false⟩)⟩
theorem ldyImmediate (b : Byte) : Statement (.ldyImmediate b) :=
  ⟨rfl, rfl, rfl, _, _, (by decide : rowOf 0xA0#8 = some ⟨0xA0#8, .ldy, .immediate, 2, false⟩)⟩
theorem ldyAbsolute (w : Word) : Statement (.ldyAbsolute w) :=
  ⟨rfl, rfl, rfl, _, _, (by decide : rowOf 0xAC#8 = some ⟨0xAC#8, .ldy, .absolute, 4, false⟩)⟩
theorem ldyAbsoluteX (w : Word) : Statement (.ldyAbsoluteX w) :=
  ⟨rfl, rfl, rfl, _, _, (by decide : rowOf 0xBC#8 = some ⟨0xBC#8, .ldy, .absoluteX, 4, true⟩)⟩
theorem ldyZeroPage (b : Byte) : Statement (.ldyZeroPage b) :=
  ⟨rfl, rfl, rfl, _, _, (by decide : rowOf 0xA4#8 = some ⟨0xA4#8, .ldy, .zeroPage, 3, false⟩)⟩
theorem ldyZeroPageX (b : Byte) : Statement (.ldyZeroPageX b) :=
  ⟨rfl, rfl, rfl, _, _, (by decide : rowOf 0xB4#8 = some ⟨0xB4#8, .ldy, .zeroPageX, 4, false⟩)⟩
theorem staAbsolute (w : Word) : Statement (.staAbsolute w) :=
  ⟨rfl, rfl, rfl, _, _, (by decide : rowOf 0x8D#8 = some ⟨0x8D#8, .sta, .absolute, 4, false⟩)⟩
theorem staAbsoluteX (w : Word) : Statement (.staAbsoluteX w) :=
  ⟨rfl, rfl, rfl, _, _, (by decide : rowOf 0x9D#8 = some ⟨0x9D#8, .sta, .absoluteX, 5, false⟩)⟩
theorem staAbsoluteY (w : Word) : Statement (.staAbsoluteY w) :=
  ⟨rfl, rfl, rfl, _, _, (by decide : rowOf 0x99#8 = some ⟨0x99#8, .sta, .absoluteY, 5, false⟩)⟩
theorem staZeroPage (b : Byte) : Statement (.staZeroPage b) :=
  ⟨rfl, rfl, rfl, _, _, (by decide : rowOf 0x85#8 = some ⟨0x85#8, .sta, .zeroPage, 3, false⟩)⟩
theorem staZeroPageX (b : Byte) : Statement (.staZeroPageX b) :=
  ⟨rfl, rfl, rfl, _, _, (by decide : rowOf 0x95#8 = some ⟨0x95#8, .sta, .zeroPageX, 4, false⟩)⟩
theorem staIndirectX (b : Byte) : Statement (.staIndirectX b) :=
  ⟨rfl, rfl, rfl, _, _, (by decide : rowOf 0x81#8 = some ⟨0x81#8, .sta, .indirectX, 6, false⟩)⟩
theorem staIndirectY (b : Byte) : Statement (.staIndirectY b) :=
  ⟨rfl, rfl, rfl, _, _, (by decide : rowOf 0x91#8 = some ⟨0x91#8, .sta, .indirectY, 6, false⟩)⟩
theorem stxAbsolute (w : Word) : Statement (.stxAbsolute w) :=
  ⟨rfl, rfl, rfl, _, _, (by decide : rowOf 0x8E#8 = some ⟨0x8E#8, .stx, .absolute, 4, false⟩)⟩
theorem stxZeroPage (b : Byte) : Statement (.stxZeroPage b) :=
  ⟨rfl, rfl, rfl, _, _, (by decide : rowOf 0x86#8 = some ⟨0x86#8, .stx, .zeroPage, 3, false⟩)⟩
theorem stxZeroPageY (b : Byte) : Statement (.stxZeroPageY b) :=
  ⟨rfl, rfl, rfl, _, _, (by decide : rowOf 0x96#8 = some ⟨0x96#8, .stx, .zeroPageY, 4, false⟩)⟩
theorem styAbsolute (w : Word) : Statement (.styAbsolute w) :=
  ⟨rfl, rfl, rfl, _, _, (by decide : rowOf 0x8C#8 = some ⟨0x8C#8, .sty, .absolute, 4, false⟩)⟩
theorem styZeroPage (b : Byte) : Statement (.styZeroPage b) :=
  ⟨rfl, rfl, rfl, _, _, (by decide : rowOf 0x84#8 = some ⟨0x84#8, .sty, .zeroPage, 3, false⟩)⟩
theorem styZeroPageX (b : Byte) : Statement (.styZeroPageX b) :=
  ⟨rfl, rfl, rfl, _, _, (by decide : rowOf 0x94#8 = some ⟨0x94#8, .sty, .zeroPageX, 4, false⟩)⟩
theorem tax : Statement (.tax) :=
  ⟨rfl, rfl, rfl, _, _, (by decide : rowOf 0xAA#8 = some ⟨0xAA#8, .tax, .implied, 2, false⟩)⟩
theorem tay : Statement (.tay) :=
  ⟨rfl, rfl, rfl, _, _, (by decide : rowOf 0xA8#8 = some ⟨0xA8#8, .tay, .implied, 2, false⟩)⟩
theorem tsx : Statement (.tsx) :=
  ⟨rfl, rfl, rfl, _, _, (by decide : rowOf 0xBA#8 = some ⟨0xBA#8, .tsx, .implied, 2, false⟩)⟩
theorem txa : Statement (.txa) :=
  ⟨rfl, rfl, rfl, _, _, (by decide : rowOf 0x8A#8 = some ⟨0x8A#8, .txa, .implied, 2, false⟩)⟩
theorem txs : Statement (.txs) :=
  ⟨rfl, rfl, rfl, _, _, (by decide : rowOf 0x9A#8 = some ⟨0x9A#8, .txs, .implied, 2, false⟩)⟩
theorem tya : Statement (.tya) :=
  ⟨rfl, rfl, rfl, _, _, (by decide : rowOf 0x98#8 = some ⟨0x98#8, .tya, .implied, 2, false⟩)⟩
theorem pha : Statement (.pha) :=
  ⟨rfl, rfl, rfl, _, _, (by decide : rowOf 0x48#8 = some ⟨0x48#8, .pha, .implied, 3, false⟩)⟩
theorem php : Statement (.php) :=
  ⟨rfl, rfl, rfl, _, _, (by decide : rowOf 0x08#8 = some ⟨0x08#8, .php, .implied, 3, false⟩)⟩
theorem pla : Statement (.pla) :=
  ⟨rfl, rfl, rfl, _, _, (by decide : rowOf 0x68#8 = some ⟨0x68#8, .pla, .implied, 4, false⟩)⟩
theorem plp : Statement (.plp) :=
  ⟨rfl, rfl, rfl, _, _, (by decide : rowOf 0x28#8 = some ⟨0x28#8, .plp, .implied, 4, false⟩)⟩
theorem andImmediate (b : Byte) : Statement (.andImmediate b) :=
  ⟨rfl, rfl, rfl, _, _, (by decide : rowOf 0x29#8 = some ⟨0x29#8, .and, .immediate, 2, false⟩)⟩
theorem andAbsolute (w : Word) : Statement (.andAbsolute w) :=
  ⟨rfl, rfl, rfl, _, _, (by decide : rowOf 0x2D#8 = some ⟨0x2D#8, .and, .absolute, 4, false⟩)⟩
theorem andAbsoluteX (w : Word) : Statement (.andAbsoluteX w) :=
  ⟨rfl, rfl, rfl, _, _, (by decide : rowOf 0x3D#8 = some ⟨0x3D#8, .and, .absoluteX, 4, true⟩)⟩
theorem andAbsoluteY (w : Word) : Statement (.andAbsoluteY w) :=
  ⟨rfl, rfl, rfl, _, _, (by decide : rowOf 0x39#8 = some ⟨0x39#8, .and, .absoluteY, 4, true⟩)⟩
theorem andZeroPage (b : Byte) : Statement (.andZeroPage b) :=
  ⟨rfl, rfl, rfl, _, _, (by decide : rowOf 0x25#8 = some ⟨0x25#8, .and, .zeroPage, 3, false⟩)⟩
theorem andZeroPageX (b : Byte) : Statement (.andZeroPageX b) :=
  ⟨rfl, rfl, rfl, _, _, (by decide : rowOf 0x35#8 = some ⟨0x35#8, .and, .zeroPageX, 4, false⟩)⟩
theorem andIndirectX (b : Byte) : Statement (.andIndirectX b) :=
  ⟨rfl, rfl, rfl, _, _, (by decide : rowOf 0x21#8 = some ⟨0x21#8, .and, .indirectX, 6, false⟩)⟩
theorem andIndirectY (b : Byte) : Statement (.andIndirectY b) :=
  ⟨rfl, rfl, rfl, _, _, (by decide : rowOf 0x31#8 = some ⟨0x31#8, .and, .indirectY, 5, true⟩)⟩
theorem oraImmediate (b : Byte) : Statement (.oraImmediate b) :=
  ⟨rfl, rfl, rfl, _, _, (by decide : rowOf 0x09#8 = some ⟨0x09#8, .ora, .immediate, 2, false⟩)⟩
theorem oraAbsolute (w : Word) : Statement (.oraAbsolute w) :=
  ⟨rfl, rfl, rfl, _, _, (by decide : rowOf 0x0D#8 = some ⟨0x0D#8, .ora, .absolute, 4, false⟩)⟩
theorem oraAbsoluteX (w : Word) : Statement (.oraAbsoluteX w) :=
  ⟨rfl, rfl, rfl, _, _, (by decide : rowOf 0x1D#8 = some ⟨0x1D#8, .ora, .absoluteX, 4, true⟩)⟩
theorem oraAbsoluteY (w : Word) : Statement (.oraAbsoluteY w) :=
  ⟨rfl, rfl, rfl, _, _, (by decide : rowOf 0x19#8 = some ⟨0x19#8, .ora, .absoluteY, 4, true⟩)⟩
theorem oraZeroPage (b : Byte) : Statement (.oraZeroPage b) :=
  ⟨rfl, rfl, rfl, _, _, (by decide : rowOf 0x05#8 = some ⟨0x05#8, .ora, .zeroPage, 3, false⟩)⟩
theorem oraZeroPageX (b : Byte) : Statement (.oraZeroPageX b) :=
  ⟨rfl, rfl, rfl, _, _, (by decide : rowOf 0x15#8 = some ⟨0x15#8, .ora, .zeroPageX, 4, false⟩)⟩
theorem oraIndirectX (b : Byte) : Statement (.oraIndirectX b) :=
  ⟨rfl, rfl, rfl, _, _, (by decide : rowOf 0x01#8 = some ⟨0x01#8, .ora, .indirectX, 6, false⟩)⟩
theorem oraIndirectY (b : Byte) : Statement (.oraIndirectY b) :=
  ⟨rfl, rfl, rfl, _, _, (by decide : rowOf 0x11#8 = some ⟨0x11#8, .ora, .indirectY, 5, true⟩)⟩
theorem eorImmediate (b : Byte) : Statement (.eorImmediate b) :=
  ⟨rfl, rfl, rfl, _, _, (by decide : rowOf 0x49#8 = some ⟨0x49#8, .eor, .immediate, 2, false⟩)⟩
theorem eorAbsolute (w : Word) : Statement (.eorAbsolute w) :=
  ⟨rfl, rfl, rfl, _, _, (by decide : rowOf 0x4D#8 = some ⟨0x4D#8, .eor, .absolute, 4, false⟩)⟩
theorem eorAbsoluteX (w : Word) : Statement (.eorAbsoluteX w) :=
  ⟨rfl, rfl, rfl, _, _, (by decide : rowOf 0x5D#8 = some ⟨0x5D#8, .eor, .absoluteX, 4, true⟩)⟩
theorem eorAbsoluteY (w : Word) : Statement (.eorAbsoluteY w) :=
  ⟨rfl, rfl, rfl, _, _, (by decide : rowOf 0x59#8 = some ⟨0x59#8, .eor, .absoluteY, 4, true⟩)⟩
theorem eorZeroPage (b : Byte) : Statement (.eorZeroPage b) :=
  ⟨rfl, rfl, rfl, _, _, (by decide : rowOf 0x45#8 = some ⟨0x45#8, .eor, .zeroPage, 3, false⟩)⟩
theorem eorZeroPageX (b : Byte) : Statement (.eorZeroPageX b) :=
  ⟨rfl, rfl, rfl, _, _, (by decide : rowOf 0x55#8 = some ⟨0x55#8, .eor, .zeroPageX, 4, false⟩)⟩
theorem eorIndirectX (b : Byte) : Statement (.eorIndirectX b) :=
  ⟨rfl, rfl, rfl, _, _, (by decide : rowOf 0x41#8 = some ⟨0x41#8, .eor, .indirectX, 6, false⟩)⟩
theorem eorIndirectY (b : Byte) : Statement (.eorIndirectY b) :=
  ⟨rfl, rfl, rfl, _, _, (by decide : rowOf 0x51#8 = some ⟨0x51#8, .eor, .indirectY, 5, true⟩)⟩
theorem bitAbsolute (w : Word) : Statement (.bitAbsolute w) :=
  ⟨rfl, rfl, rfl, _, _, (by decide : rowOf 0x2C#8 = some ⟨0x2C#8, .bit, .absolute, 4, false⟩)⟩
theorem bitZeroPage (b : Byte) : Statement (.bitZeroPage b) :=
  ⟨rfl, rfl, rfl, _, _, (by decide : rowOf 0x24#8 = some ⟨0x24#8, .bit, .zeroPage, 3, false⟩)⟩
theorem aslAccumulator : Statement (.aslAccumulator) :=
  ⟨rfl, rfl, rfl, _, _, (by decide : rowOf 0x0A#8 = some ⟨0x0A#8, .asl, .accumulator, 2, false⟩)⟩
theorem aslAbsolute (w : Word) : Statement (.aslAbsolute w) :=
  ⟨rfl, rfl, rfl, _, _, (by decide : rowOf 0x0E#8 = some ⟨0x0E#8, .asl, .absolute, 6, false⟩)⟩
theorem aslAbsoluteX (w : Word) : Statement (.aslAbsoluteX w) :=
  ⟨rfl, rfl, rfl, _, _, (by decide : rowOf 0x1E#8 = some ⟨0x1E#8, .asl, .absoluteX, 7, false⟩)⟩
theorem aslZeroPage (b : Byte) : Statement (.aslZeroPage b) :=
  ⟨rfl, rfl, rfl, _, _, (by decide : rowOf 0x06#8 = some ⟨0x06#8, .asl, .zeroPage, 5, false⟩)⟩
theorem aslZeroPageX (b : Byte) : Statement (.aslZeroPageX b) :=
  ⟨rfl, rfl, rfl, _, _, (by decide : rowOf 0x16#8 = some ⟨0x16#8, .asl, .zeroPageX, 6, false⟩)⟩
theorem lsrAccumulator : Statement (.lsrAccumulator) :=
  ⟨rfl, rfl, rfl, _, _, (by decide : rowOf 0x4A#8 = some ⟨0x4A#8, .lsr, .accumulator, 2, false⟩)⟩
theorem lsrAbsolute (w : Word) : Statement (.lsrAbsolute w) :=
  ⟨rfl, rfl, rfl, _, _, (by decide : rowOf 0x4E#8 = some ⟨0x4E#8, .lsr, .absolute, 6, false⟩)⟩
theorem lsrAbsoluteX (w : Word) : Statement (.lsrAbsoluteX w) :=
  ⟨rfl, rfl, rfl, _, _, (by decide : rowOf 0x5E#8 = some ⟨0x5E#8, .lsr, .absoluteX, 7, false⟩)⟩
theorem lsrZeroPage (b : Byte) : Statement (.lsrZeroPage b) :=
  ⟨rfl, rfl, rfl, _, _, (by decide : rowOf 0x46#8 = some ⟨0x46#8, .lsr, .zeroPage, 5, false⟩)⟩
theorem lsrZeroPageX (b : Byte) : Statement (.lsrZeroPageX b) :=
  ⟨rfl, rfl, rfl, _, _, (by decide : rowOf 0x56#8 = some ⟨0x56#8, .lsr, .zeroPageX, 6, false⟩)⟩
theorem rolAccumulator : Statement (.rolAccumulator) :=
  ⟨rfl, rfl, rfl, _, _, (by decide : rowOf 0x2A#8 = some ⟨0x2A#8, .rol, .accumulator, 2, false⟩)⟩
theorem rolAbsolute (w : Word) : Statement (.rolAbsolute w) :=
  ⟨rfl, rfl, rfl, _, _, (by decide : rowOf 0x2E#8 = some ⟨0x2E#8, .rol, .absolute, 6, false⟩)⟩
theorem rolAbsoluteX (w : Word) : Statement (.rolAbsoluteX w) :=
  ⟨rfl, rfl, rfl, _, _, (by decide : rowOf 0x3E#8 = some ⟨0x3E#8, .rol, .absoluteX, 7, false⟩)⟩
theorem rolZeroPage (b : Byte) : Statement (.rolZeroPage b) :=
  ⟨rfl, rfl, rfl, _, _, (by decide : rowOf 0x26#8 = some ⟨0x26#8, .rol, .zeroPage, 5, false⟩)⟩
theorem rolZeroPageX (b : Byte) : Statement (.rolZeroPageX b) :=
  ⟨rfl, rfl, rfl, _, _, (by decide : rowOf 0x36#8 = some ⟨0x36#8, .rol, .zeroPageX, 6, false⟩)⟩
theorem rorAccumulator : Statement (.rorAccumulator) :=
  ⟨rfl, rfl, rfl, _, _, (by decide : rowOf 0x6A#8 = some ⟨0x6A#8, .ror, .accumulator, 2, false⟩)⟩
theorem rorAbsolute (w : Word) : Statement (.rorAbsolute w) :=
  ⟨rfl, rfl, rfl, _, _, (by decide : rowOf 0x6E#8 = some ⟨0x6E#8, .ror, .absolute, 6, false⟩)⟩
theorem rorAbsoluteX (w : Word) : Statement (.rorAbsoluteX w) :=
  ⟨rfl, rfl, rfl, _, _, (by decide : rowOf 0x7E#8 = some ⟨0x7E#8, .ror, .absoluteX, 7, false⟩)⟩
theorem rorZeroPage (b : Byte) : Statement (.rorZeroPage b) :=
  ⟨rfl, rfl, rfl, _, _, (by decide : rowOf 0x66#8 = some ⟨0x66#8, .ror, .zeroPage, 5, false⟩)⟩
theorem rorZeroPageX (b : Byte) : Statement (.rorZeroPageX b) :=
  ⟨rfl, rfl, rfl, _, _, (by decide : rowOf 0x76#8 = some ⟨0x76#8, .ror, .zeroPageX, 6, false⟩)⟩
theorem adcImmediate (b : Byte) : Statement (.adcImmediate b) :=
  ⟨rfl, rfl, rfl, _, _, (by decide : rowOf 0x69#8 = some ⟨0x69#8, .adc, .immediate, 2, false⟩)⟩
theorem adcAbsolute (w : Word) : Statement (.adcAbsolute w) :=
  ⟨rfl, rfl, rfl, _, _, (by decide : rowOf 0x6D#8 = some ⟨0x6D#8, .adc, .absolute, 4, false⟩)⟩
theorem adcAbsoluteX (w : Word) : Statement (.adcAbsoluteX w) :=
  ⟨rfl, rfl, rfl, _, _, (by decide : rowOf 0x7D#8 = some ⟨0x7D#8, .adc, .absoluteX, 4, true⟩)⟩
theorem adcAbsoluteY (w : Word) : Statement (.adcAbsoluteY w) :=
  ⟨rfl, rfl, rfl, _, _, (by decide : rowOf 0x79#8 = some ⟨0x79#8, .adc, .absoluteY, 4, true⟩)⟩
theorem adcZeroPage (b : Byte) : Statement (.adcZeroPage b) :=
  ⟨rfl, rfl, rfl, _, _, (by decide : rowOf 0x65#8 = some ⟨0x65#8, .adc, .zeroPage, 3, false⟩)⟩
theorem adcZeroPageX (b : Byte) : Statement (.adcZeroPageX b) :=
  ⟨rfl, rfl, rfl, _, _, (by decide : rowOf 0x75#8 = some ⟨0x75#8, .adc, .zeroPageX, 4, false⟩)⟩
theorem adcIndirectX (b : Byte) : Statement (.adcIndirectX b) :=
  ⟨rfl, rfl, rfl, _, _, (by decide : rowOf 0x61#8 = some ⟨0x61#8, .adc, .indirectX, 6, false⟩)⟩
theorem adcIndirectY (b : Byte) : Statement (.adcIndirectY b) :=
  ⟨rfl, rfl, rfl, _, _, (by decide : rowOf 0x71#8 = some ⟨0x71#8, .adc, .indirectY, 5, true⟩)⟩
theorem sbcImmediate (b : Byte) : Statement (.sbcImmediate b) :=
  ⟨rfl, rfl, rfl, _, _, (by decide : rowOf 0xE9#8 = some ⟨0xE9#8, .sbc, .immediate, 2, false⟩)⟩
theorem sbcAbsolute (w : Word) : Statement (.sbcAbsolute w) :=
  ⟨rfl, rfl, rfl, _, _, (by decide : rowOf 0xED#8 = some ⟨0xED#8, .sbc, .absolute, 4, false⟩)⟩
theorem sbcAbsoluteX (w : Word) : Statement (.sbcAbsoluteX w) :=
  ⟨rfl, rfl, rfl, _, _, (by decide : rowOf 0xFD#8 = some ⟨0xFD#8, .sbc, .absoluteX, 4, true⟩)⟩
theorem sbcAbsoluteY (w : Word) : Statement (.sbcAbsoluteY w) :=
  ⟨rfl, rfl, rfl, _, _, (by decide : rowOf 0xF9#8 = some ⟨0xF9#8, .sbc, .absoluteY, 4, true⟩)⟩
theorem sbcZeroPage (b : Byte) : Statement (.sbcZeroPage b) :=
  ⟨rfl, rfl, rfl, _, _, (by decide : rowOf 0xE5#8 = some ⟨0xE5#8, .sbc, .zeroPage, 3, false⟩)⟩
theorem sbcZeroPageX (b : Byte) : Statement (.sbcZeroPageX b) :=
  ⟨rfl, rfl, rfl, _, _, (by decide : rowOf 0xF5#8 = some ⟨0xF5#8, .sbc, .zeroPageX, 4, false⟩)⟩
theorem sbcIndirectX (b : Byte) : Statement (.sbcIndirectX b) :=
  ⟨rfl, rfl, rfl, _, _, (by decide : rowOf 0xE1#8 = some ⟨0xE1#8, .sbc, .indirectX, 6, false⟩)⟩
theorem sbcIndirectY (b : Byte) : Statement (.sbcIndirectY b) :=
  ⟨rfl, rfl, rfl, _, _, (by decide : rowOf 0xF1#8 = some ⟨0xF1#8, .sbc, .indirectY, 5, true⟩)⟩
theorem cmpImmediate (b : Byte) : Statement (.cmpImmediate b) :=
  ⟨rfl, rfl, rfl, _, _, (by decide : rowOf 0xC9#8 = some ⟨0xC9#8, .cmp, .immediate, 2, false⟩)⟩
theorem cmpAbsolute (w : Word) : Statement (.cmpAbsolute w) :=
  ⟨rfl, rfl, rfl, _, _, (by decide : rowOf 0xCD#8 = some ⟨0xCD#8, .cmp, .absolute, 4, false⟩)⟩
theorem cmpAbsoluteX (w : Word) : Statement (.cmpAbsoluteX w) :=
  ⟨rfl, rfl, rfl, _, _, (by decide : rowOf 0xDD#8 = some ⟨0xDD#8, .cmp, .absoluteX, 4, true⟩)⟩
theorem cmpAbsoluteY (w : Word) : Statement (.cmpAbsoluteY w) :=
  ⟨rfl, rfl, rfl, _, _, (by decide : rowOf 0xD9#8 = some ⟨0xD9#8, .cmp, .absoluteY, 4, true⟩)⟩
theorem cmpZeroPage (b : Byte) : Statement (.cmpZeroPage b) :=
  ⟨rfl, rfl, rfl, _, _, (by decide : rowOf 0xC5#8 = some ⟨0xC5#8, .cmp, .zeroPage, 3, false⟩)⟩
theorem cmpZeroPageX (b : Byte) : Statement (.cmpZeroPageX b) :=
  ⟨rfl, rfl, rfl, _, _, (by decide : rowOf 0xD5#8 = some ⟨0xD5#8, .cmp, .zeroPageX, 4, false⟩)⟩
theorem cmpIndirectX (b : Byte) : Statement (.cmpIndirectX b) :=
  ⟨rfl, rfl, rfl, _, _, (by decide : rowOf 0xC1#8 = some ⟨0xC1#8, .cmp, .indirectX, 6, false⟩)⟩
theorem cmpIndirectY (b : Byte) : Statement (.cmpIndirectY b) :=
  ⟨rfl, rfl, rfl, _, _, (by decide : rowOf 0xD1#8 = some ⟨0xD1#8, .cmp, .indirectY, 5, true⟩)⟩
theorem cpxImmediate (b : Byte) : Statement (.cpxImmediate b) :=
  ⟨rfl, rfl, rfl, _, _, (by decide : rowOf 0xE0#8 = some ⟨0xE0#8, .cpx, .immediate, 2, false⟩)⟩
theorem cpxAbsolute (w : Word) : Statement (.cpxAbsolute w) :=
  ⟨rfl, rfl, rfl, _, _, (by decide : rowOf 0xEC#8 = some ⟨0xEC#8, .cpx, .absolute, 4, false⟩)⟩
theorem cpxZeroPage (b : Byte) : Statement (.cpxZeroPage b) :=
  ⟨rfl, rfl, rfl, _, _, (by decide : rowOf 0xE4#8 = some ⟨0xE4#8, .cpx, .zeroPage, 3, false⟩)⟩
theorem cpyImmediate (b : Byte) : Statement (.cpyImmediate b) :=
  ⟨rfl, rfl, rfl, _, _, (by decide : rowOf 0xC0#8 = some ⟨0xC0#8, .cpy, .immediate, 2, false⟩)⟩
theorem cpyAbsolute (w : Word) : Statement (.cpyAbsolute w) :=
  ⟨rfl, rfl, rfl, _, _, (by decide : rowOf 0xCC#8 = some ⟨0xCC#8, .cpy, .absolute, 4, false⟩)⟩
theorem cpyZeroPage (b : Byte) : Statement (.cpyZeroPage b) :=
  ⟨rfl, rfl, rfl, _, _, (by decide : rowOf 0xC4#8 = some ⟨0xC4#8, .cpy, .zeroPage, 3, false⟩)⟩
theorem incAbsolute (w : Word) : Statement (.incAbsolute w) :=
  ⟨rfl, rfl, rfl, _, _, (by decide : rowOf 0xEE#8 = some ⟨0xEE#8, .inc, .absolute, 6, false⟩)⟩
theorem incAbsoluteX (w : Word) : Statement (.incAbsoluteX w) :=
  ⟨rfl, rfl, rfl, _, _, (by decide : rowOf 0xFE#8 = some ⟨0xFE#8, .inc, .absoluteX, 7, false⟩)⟩
theorem incZeroPage (b : Byte) : Statement (.incZeroPage b) :=
  ⟨rfl, rfl, rfl, _, _, (by decide : rowOf 0xE6#8 = some ⟨0xE6#8, .inc, .zeroPage, 5, false⟩)⟩
theorem incZeroPageX (b : Byte) : Statement (.incZeroPageX b) :=
  ⟨rfl, rfl, rfl, _, _, (by decide : rowOf 0xF6#8 = some ⟨0xF6#8, .inc, .zeroPageX, 6, false⟩)⟩
theorem decAbsolute (w : Word) : Statement (.decAbsolute w) :=
  ⟨rfl, rfl, rfl, _, _, (by decide : rowOf 0xCE#8 = some ⟨0xCE#8, .dec, .absolute, 6, false⟩)⟩
theorem decAbsoluteX (w : Word) : Statement (.decAbsoluteX w) :=
  ⟨rfl, rfl, rfl, _, _, (by decide : rowOf 0xDE#8 = some ⟨0xDE#8, .dec, .absoluteX, 7, false⟩)⟩
theorem decZeroPage (b : Byte) : Statement (.decZeroPage b) :=
  ⟨rfl, rfl, rfl, _, _, (by decide : rowOf 0xC6#8 = some ⟨0xC6#8, .dec, .zeroPage, 5, false⟩)⟩
theorem decZeroPageX (b : Byte) : Statement (.decZeroPageX b) :=
  ⟨rfl, rfl, rfl, _, _, (by decide : rowOf 0xD6#8 = some ⟨0xD6#8, .dec, .zeroPageX, 6, false⟩)⟩
theorem inx : Statement (.inx) :=
  ⟨rfl, rfl, rfl, _, _, (by decide : rowOf 0xE8#8 = some ⟨0xE8#8, .inx, .implied, 2, false⟩)⟩
theorem dex : Statement (.dex) :=
  ⟨rfl, rfl, rfl, _, _, (by decide : rowOf 0xCA#8 = some ⟨0xCA#8, .dex, .implied, 2, false⟩)⟩
theorem iny : Statement (.iny) :=
  ⟨rfl, rfl, rfl, _, _, (by decide : rowOf 0xC8#8 = some ⟨0xC8#8, .iny, .implied, 2, false⟩)⟩
theorem dey : Statement (.dey) :=
  ⟨rfl, rfl, rfl, _, _, (by decide : rowOf 0x88#8 = some ⟨0x88#8, .dey, .implied, 2, false⟩)⟩
theorem bcc (b : Byte) : Statement (.bcc b) :=
  ⟨rfl, rfl, rfl, _, _, (by decide : rowOf 0x90#8 = some ⟨0x90#8, .bcc, .relative, 2, false⟩)⟩
theorem bcs (b : Byte) : Statement (.bcs b) :=
  ⟨rfl, rfl, rfl, _, _, (by decide : rowOf 0xB0#8 = some ⟨0xB0#8, .bcs, .relative, 2, false⟩)⟩
theorem beq (b : Byte) : Statement (.beq b) :=
  ⟨rfl, rfl, rfl, _, _, (by decide : rowOf 0xF0#8 = some ⟨0xF0#8, .beq, .relative, 2, false⟩)⟩
theorem bne (b : Byte) : Statement (.bne b) :=
  ⟨rfl, rfl, rfl, _, _, (by decide : rowOf 0xD0#8 = some ⟨0xD0#8, .bne, .relative, 2, false⟩)⟩
theorem bmi (b : Byte) : Statement (.bmi b) :=
  ⟨rfl, rfl, rfl, _, _, (by decide : rowOf 0x30#8 = some ⟨0x30#8, .bmi, .relative, 2, false⟩)⟩
theorem bpl (b : Byte) : Statement (.bpl b) :=
  ⟨rfl, rfl, rfl, _, _, (by decide : rowOf 0x10#8 = some ⟨0x10#8, .bpl, .relative, 2, false⟩)⟩
theorem bvc (b : Byte) : Statement (.bvc b) :=
  ⟨rfl, rfl, rfl, _, _, (by decide : rowOf 0x50#8 = some ⟨0x50#8, .bvc, .relative, 2, false⟩)⟩
theorem bvs (b : Byte) : Statement (.bvs b) :=
  ⟨rfl, rfl, rfl, _, _, (by decide : rowOf 0x70#8 = some ⟨0x70#8, .bvs, .relative, 2, false⟩)⟩
theorem jmpAbsolute (w : Word) : Statement (.jmpAbsolute w) :=
  ⟨rfl, rfl, rfl, _, _, (by decide : rowOf 0x4C#8 = some ⟨0x4C#8, .jmp, .absolute, 3, false⟩)⟩
theorem jmpIndirect (w : Word) : Statement (.jmpIndirect w) :=
  ⟨rfl, rfl, rfl, _, _, (by decide : rowOf 0x6C#8 = some ⟨0x6C#8, .jmp, .indirect, 5, false⟩)⟩
theorem jsr (w : Word) : Statement (.jsr w) :=
  ⟨rfl, rfl, rfl, _, _, (by decide : rowOf 0x20#8 = some ⟨0x20#8, .jsr, .absolute, 6, false⟩)⟩
theorem rts : Statement (.rts) :=
  ⟨rfl, rfl, rfl, _, _, (by decide : rowOf 0x60#8 = some ⟨0x60#8, .rts, .implied, 6, false⟩)⟩
theorem clc : Statement (.clc) :=
  ⟨rfl, rfl, rfl, _, _, (by decide : rowOf 0x18#8 = some ⟨0x18#8, .clc, .implied, 2, false⟩)⟩
theorem sec : Statement (.sec) :=
  ⟨rfl, rfl, rfl, _, _, (by decide : rowOf 0x38#8 = some ⟨0x38#8, .sec, .implied, 2, false⟩)⟩
theorem cld : Statement (.cld) :=
  ⟨rfl, rfl, rfl, _, _, (by decide : rowOf 0xD8#8 = some ⟨0xD8#8, .cld, .implied, 2, false⟩)⟩
theorem sed : Statement (.sed) :=
  ⟨rfl, rfl, rfl, _, _, (by decide : rowOf 0xF8#8 = some ⟨0xF8#8, .sed, .implied, 2, false⟩)⟩
theorem cli : Statement (.cli) :=
  ⟨rfl, rfl, rfl, _, _, (by decide : rowOf 0x58#8 = some ⟨0x58#8, .cli, .implied, 2, false⟩)⟩
theorem sei : Statement (.sei) :=
  ⟨rfl, rfl, rfl, _, _, (by decide : rowOf 0x78#8 = some ⟨0x78#8, .sei, .implied, 2, false⟩)⟩
theorem clv : Statement (.clv) :=
  ⟨rfl, rfl, rfl, _, _, (by decide : rowOf 0xB8#8 = some ⟨0xB8#8, .clv, .implied, 2, false⟩)⟩
theorem nop : Statement (.nop) :=
  ⟨rfl, rfl, rfl, _, _, (by decide : rowOf 0xEA#8 = some ⟨0xEA#8, .nop, .implied, 2, false⟩)⟩
theorem brk : Statement (.brk) :=
  ⟨rfl, rfl, rfl, _, _, (by decide : rowOf 0x00#8 = some ⟨0x00#8, .brk, .implied, 7, false⟩)⟩
theorem rti : Statement (.rti) :=
  ⟨rfl, rfl, rfl, _, _, (by decide : rowOf 0x40#8 = some ⟨0x40#8, .rti, .implied, 6, false⟩)⟩

/-- The statement of every instruction. -/
theorem all (i : Instr) : Statement i := by
  cases i with
  | ldaImmediate b => exact ldaImmediate b
  | ldaAbsolute w => exact ldaAbsolute w
  | ldaAbsoluteX w => exact ldaAbsoluteX w
  | ldaAbsoluteY w => exact ldaAbsoluteY w
  | ldaZeroPage b => exact ldaZeroPage b
  | ldaZeroPageX b => exact ldaZeroPageX b
  | ldaIndirectX b => exact ldaIndirectX b
  | ldaIndirectY b => exact ldaIndirectY b
  | ldxImmediate b => exact ldxImmediate b
  | ldxAbsolute w => exact ldxAbsolute w
  | ldxAbsoluteY w => exact ldxAbsoluteY w
  | ldxZeroPage b => exact ldxZeroPage b
  | ldxZeroPageY b => exact ldxZeroPageY b
  | ldyImmediate b => exact ldyImmediate b
  | ldyAbsolute w => exact ldyAbsolute w
  | ldyAbsoluteX w => exact ldyAbsoluteX w
  | ldyZeroPage b => exact ldyZeroPage b
  | ldyZeroPageX b => exact ldyZeroPageX b
  | staAbsolute w => exact staAbsolute w
  | staAbsoluteX w => exact staAbsoluteX w
  | staAbsoluteY w => exact staAbsoluteY w
  | staZeroPage b => exact staZeroPage b
  | staZeroPageX b => exact staZeroPageX b
  | staIndirectX b => exact staIndirectX b
  | staIndirectY b => exact staIndirectY b
  | stxAbsolute w => exact stxAbsolute w
  | stxZeroPage b => exact stxZeroPage b
  | stxZeroPageY b => exact stxZeroPageY b
  | styAbsolute w => exact styAbsolute w
  | styZeroPage b => exact styZeroPage b
  | styZeroPageX b => exact styZeroPageX b
  | tax => exact tax
  | tay => exact tay
  | tsx => exact tsx
  | txa => exact txa
  | txs => exact txs
  | tya => exact tya
  | pha => exact pha
  | php => exact php
  | pla => exact pla
  | plp => exact plp
  | andImmediate b => exact andImmediate b
  | andAbsolute w => exact andAbsolute w
  | andAbsoluteX w => exact andAbsoluteX w
  | andAbsoluteY w => exact andAbsoluteY w
  | andZeroPage b => exact andZeroPage b
  | andZeroPageX b => exact andZeroPageX b
  | andIndirectX b => exact andIndirectX b
  | andIndirectY b => exact andIndirectY b
  | oraImmediate b => exact oraImmediate b
  | oraAbsolute w => exact oraAbsolute w
  | oraAbsoluteX w => exact oraAbsoluteX w
  | oraAbsoluteY w => exact oraAbsoluteY w
  | oraZeroPage b => exact oraZeroPage b
  | oraZeroPageX b => exact oraZeroPageX b
  | oraIndirectX b => exact oraIndirectX b
  | oraIndirectY b => exact oraIndirectY b
  | eorImmediate b => exact eorImmediate b
  | eorAbsolute w => exact eorAbsolute w
  | eorAbsoluteX w => exact eorAbsoluteX w
  | eorAbsoluteY w => exact eorAbsoluteY w
  | eorZeroPage b => exact eorZeroPage b
  | eorZeroPageX b => exact eorZeroPageX b
  | eorIndirectX b => exact eorIndirectX b
  | eorIndirectY b => exact eorIndirectY b
  | bitAbsolute w => exact bitAbsolute w
  | bitZeroPage b => exact bitZeroPage b
  | aslAccumulator => exact aslAccumulator
  | aslAbsolute w => exact aslAbsolute w
  | aslAbsoluteX w => exact aslAbsoluteX w
  | aslZeroPage b => exact aslZeroPage b
  | aslZeroPageX b => exact aslZeroPageX b
  | lsrAccumulator => exact lsrAccumulator
  | lsrAbsolute w => exact lsrAbsolute w
  | lsrAbsoluteX w => exact lsrAbsoluteX w
  | lsrZeroPage b => exact lsrZeroPage b
  | lsrZeroPageX b => exact lsrZeroPageX b
  | rolAccumulator => exact rolAccumulator
  | rolAbsolute w => exact rolAbsolute w
  | rolAbsoluteX w => exact rolAbsoluteX w
  | rolZeroPage b => exact rolZeroPage b
  | rolZeroPageX b => exact rolZeroPageX b
  | rorAccumulator => exact rorAccumulator
  | rorAbsolute w => exact rorAbsolute w
  | rorAbsoluteX w => exact rorAbsoluteX w
  | rorZeroPage b => exact rorZeroPage b
  | rorZeroPageX b => exact rorZeroPageX b
  | adcImmediate b => exact adcImmediate b
  | adcAbsolute w => exact adcAbsolute w
  | adcAbsoluteX w => exact adcAbsoluteX w
  | adcAbsoluteY w => exact adcAbsoluteY w
  | adcZeroPage b => exact adcZeroPage b
  | adcZeroPageX b => exact adcZeroPageX b
  | adcIndirectX b => exact adcIndirectX b
  | adcIndirectY b => exact adcIndirectY b
  | sbcImmediate b => exact sbcImmediate b
  | sbcAbsolute w => exact sbcAbsolute w
  | sbcAbsoluteX w => exact sbcAbsoluteX w
  | sbcAbsoluteY w => exact sbcAbsoluteY w
  | sbcZeroPage b => exact sbcZeroPage b
  | sbcZeroPageX b => exact sbcZeroPageX b
  | sbcIndirectX b => exact sbcIndirectX b
  | sbcIndirectY b => exact sbcIndirectY b
  | cmpImmediate b => exact cmpImmediate b
  | cmpAbsolute w => exact cmpAbsolute w
  | cmpAbsoluteX w => exact cmpAbsoluteX w
  | cmpAbsoluteY w => exact cmpAbsoluteY w
  | cmpZeroPage b => exact cmpZeroPage b
  | cmpZeroPageX b => exact cmpZeroPageX b
  | cmpIndirectX b => exact cmpIndirectX b
  | cmpIndirectY b => exact cmpIndirectY b
  | cpxImmediate b => exact cpxImmediate b
  | cpxAbsolute w => exact cpxAbsolute w
  | cpxZeroPage b => exact cpxZeroPage b
  | cpyImmediate b => exact cpyImmediate b
  | cpyAbsolute w => exact cpyAbsolute w
  | cpyZeroPage b => exact cpyZeroPage b
  | incAbsolute w => exact incAbsolute w
  | incAbsoluteX w => exact incAbsoluteX w
  | incZeroPage b => exact incZeroPage b
  | incZeroPageX b => exact incZeroPageX b
  | decAbsolute w => exact decAbsolute w
  | decAbsoluteX w => exact decAbsoluteX w
  | decZeroPage b => exact decZeroPage b
  | decZeroPageX b => exact decZeroPageX b
  | inx => exact inx
  | dex => exact dex
  | iny => exact iny
  | dey => exact dey
  | bcc b => exact bcc b
  | bcs b => exact bcs b
  | beq b => exact beq b
  | bne b => exact bne b
  | bmi b => exact bmi b
  | bpl b => exact bpl b
  | bvc b => exact bvc b
  | bvs b => exact bvs b
  | jmpAbsolute w => exact jmpAbsolute w
  | jmpIndirect w => exact jmpIndirect w
  | jsr w => exact jsr w
  | rts => exact rts
  | clc => exact clc
  | sec => exact sec
  | cld => exact cld
  | sed => exact sed
  | cli => exact cli
  | sei => exact sei
  | clv => exact clv
  | nop => exact nop
  | brk => exact brk
  | rti => exact rti

end Sys2Proof.Laws.Shape
end

