-- ==== Sys2Proof/Laws/Exec.lean ====
section
/-! SUPPORT. What an instruction does, said once: every meaning is the operation of its mnemonic run on its operand
(`exec_eq_runOp`), and what that answers (`exec_next`). Proofs about `exec` cite these instead of unfolding 151
meanings. -/

namespace Sys2Proof.Machine

/-- The operation of a mnemonic, as files 41 to 49 give it. -/
def opOf : Mnemonic → Am → State → State
  | .lda => opLda
  | .ldx => opLdx
  | .ldy => opLdy
  | .sta => opSta
  | .stx => opStx
  | .sty => opSty
  | .tax => opTax
  | .tay => opTay
  | .tsx => opTsx
  | .txa => opTxa
  | .txs => opTxs
  | .tya => opTya
  | .pha => opPha
  | .php => opPhp
  | .pla => opPla
  | .plp => opPlp
  | .and => opAnd
  | .ora => opOra
  | .eor => opEor
  | .bit => opBit
  | .asl => opAsl
  | .lsr => opLsr
  | .rol => opRol
  | .ror => opRor
  | .adc => opAdc
  | .sbc => opSbc
  | .cmp => opCmp
  | .cpx => opCpx
  | .cpy => opCpy
  | .inc => opInc
  | .dec => opDec
  | .inx => opInx
  | .dex => opDex
  | .iny => opIny
  | .dey => opDey
  | .bcc => branch condBcc
  | .bcs => branch condBcs
  | .beq => branch condBeq
  | .bne => branch condBne
  | .bmi => branch condBmi
  | .bpl => branch condBpl
  | .bvc => branch condBvc
  | .bvs => branch condBvs
  | .jmp => opJmp
  | .jsr => opJsr
  | .rts => opRts
  | .clc => opClc
  | .sec => opSec
  | .cld => opCld
  | .sed => opSed
  | .cli => opCli
  | .sei => opSei
  | .clv => opClv
  | .nop => opNop
  | .brk => opBrk
  | .rti => opRti

theorem exec_eq_runOp (i : Instr) (s : State) : exec i s = runOp i.operand (opOf i.mnemonic) s := by
  cases i <;> rfl

/-- What an instruction answers: its operation's state, run with PC past the instruction. -/
theorem exec_next (i : Instr) (s : State) :
    exec i s = .next (opOf i.mnemonic (s.am i.operand) { s.afterMode i.operand with pc := s.nextPc i }) := exec_eq_runOp i s

theorem exec_next_iff (i : Instr) (s t : State) :
    exec i s = .next t ↔ t = opOf i.mnemonic (s.am i.operand) { s.afterMode i.operand with pc := s.nextPc i } := by
  rw [exec_next]
  exact ⟨fun h => (Host.Outcome.next.inj h).symm, fun h => h ▸ rfl⟩

/-- The advance of the addressing result is the number of operand bytes of the mode (40_step_and_addressing.md R82). -/
theorem am_adv (s : State) (o : Operand) : (s.am o).adv = BitVec.ofNat 16 o.mode.adv := by
  cases o <;> rfl

/-- Only the accumulator mode's destination is A (R82, R83). -/
theorem am_acc (s : State) (o : Operand) : (s.am o).acc = decide (o.mode = .accumulator) := by
  cases o <;> rfl

/-- The next instruction's address is the length away (10_state.md R26). -/
theorem nextPc_eq (s : State) (i : Instr) : s.nextPc i = s.pc + BitVec.ofNat 16 i.length := by
  simp only [State.nextPc, am_adv, Instr.length, Instr.mode, BitVec.ofNat_add, ← BitVec.add_assoc]

/-- The only mode an operation on memory can be told apart by: the accumulator form exists for the shifts alone. -/
theorem mnemonic_of_accumulator (i : Instr) (h : i.mode = .accumulator) :
    i.mnemonic = .asl ∨ i.mnemonic = .lsr ∨ i.mnemonic = .rol ∨ i.mnemonic = .ror := by
  cases i <;> first | exact .inl rfl | exact .inr (.inl rfl) | exact .inr (.inr (.inl rfl)) | exact .inr (.inr (.inr rfl)) | cases h

end Sys2Proof.Machine
end

