-- ==== Sys2Proof/Laws/Bus.lean ====
section
/-! SUPPORT. What the listed port calls do, said once: calls in a row depend on the contents, the device and the calls
before them alone, and every operation leaves the memory its listed calls leave (`opOf_port`). -/

namespace Sys2Proof.Machine

/-- Two states have the same memory behind the port: contents, device and calls. -/
def SamePort (s t : State) : Prop := t.mem = s.mem ∧ t.device = s.device ∧ t.calls = s.calls

theorem SamePort.trans {s t u : State} (h : SamePort s t) (k : SamePort t u) : SamePort s u :=
  ⟨k.1.trans h.1, k.2.1.trans h.2.1, k.2.2.trans h.2.2⟩

/-- The same calls leave the same memory. -/
theorem SamePort.foldl (l : List Access) {s t : State} (h : SamePort s t) :
    SamePort (l.foldl Access.apply s) (l.foldl Access.apply t) := by
  induction l generalizing s t with
  | nil => exact h
  | cons x l ih =>
    refine ih ?_
    obtain ⟨h1, h2, h3⟩ := h
    cases x <;> simp [SamePort, Access.apply, h1, h2, h3]

/-- Reads in a row are the reads at once. -/
theorem foldl_reads (l : List Word) (s : State) : (l.map Access.read).foldl Access.apply s = s.afterReads l := by
  induction l generalizing s with
  | nil => exact s.afterReads_nil.symm
  | cons a l ih =>
    rw [List.map_cons, List.foldl_cons, ih]
    exact s.afterReads_afterReads [a] l

/-- An attached memory keeps every call, in order (00_scope.md R4). -/
theorem foldl_calls_of_attached (l : List Access) (s : State) (h : s.device = .attached) :
    (l.foldl Access.apply s).calls = s.calls ++ l := by
  induction l generalizing s with
  | nil => exact (List.append_nil _).symm
  | cons x l ih =>
    rw [List.foldl_cons, ih (Access.apply s x) (by cases x <;> exact h)]
    cases x <;> simp [Access.apply, h, Device.record]

/-- The calls of the interrupt sequence are those it lists (49_brk_rti.md R220). -/
theorem interrupt_port (s : State) (ret : Word) (b : Bool) (vec : Word) :
    SamePort ((interruptAccesses s ret b vec).foldl Access.apply s) (s.interrupt ret b vec) := by
  have h : s.sp - 2#8 = s.sp - 1#8 - 1#8 := by bv_omega
  rw [interruptAccesses, h]
  refine ⟨rfl, rfl, ?_⟩
  simp [Access.apply, pushAccess, pushWordAccesses, State.pushWord]

/-- Every operation leaves the memory that its listed calls leave (20_memory.md R51). -/
theorem opOf_port (m : Mnemonic) (am : Am) (s : State) (h : m ∈ [.sta, .stx, .sty] → am.acc = false) :
    SamePort ((operationAccesses m am s s.pc).foldl Access.apply s) (opOf m am s) := by
  have h2 : s.sp + 2#8 = s.sp + 1#8 + 1#8 := by bv_omega
  have h3 : s.sp + 3#8 = s.sp + 1#8 + 1#8 + 1#8 := by bv_omega
  obtain ⟨adv, value, acc, ea, crossed⟩ := am
  cases m
  case sta | stx | sty =>
    cases h (by decide)
    exact ⟨rfl, rfl, rfl⟩
  case asl | lsr | rol | ror | inc | dec => cases acc <;> exact ⟨rfl, rfl, rfl⟩
  case bcc | bcs | beq | bne | bmi | bpl | bvc | bvs =>
    simp only [opOf, branch]
    split <;> exact ⟨rfl, rfl, rfl⟩
  case jsr =>
    refine ⟨rfl, rfl, ?_⟩
    simp [opOf, opJsr, operationAccesses, Access.apply, pushAccess, pushWordAccesses, State.pushWord]
  case brk => exact interrupt_port s (s.pc + 1#16) true Config.irqVector
  case rts =>
    simp only [opOf, operationAccesses, h2]
    refine ⟨rfl, rfl, ?_⟩
    simp [Access.apply, opRts]
  case rti =>
    simp only [opOf, operationAccesses, h2, h3]
    refine ⟨rfl, rfl, ?_⟩
    simp [Access.apply, opRti]
  all_goals exact ⟨rfl, rfl, rfl⟩

end Sys2Proof.Machine
end

