-- ==== Sys2Proof/Laws/Decode.lean ====
section
/-! SUPPORT. What the parts of the decoder answer, and which bytes stand at PC when an instruction decodes there. -/

namespace Sys2Proof

/-- The operand of a mode is read back from its own bytes. -/
theorem Operand.ofBytes_bytes (o : Operand) (rest : List Byte) :
    Operand.ofBytes o.mode (o.bytes ++ rest) = some (o, rest) := by
  cases o <;> simp [Operand.mode, Operand.bytes, Operand.ofBytes]

/-- What is read as an operand has the mode asked for, and its bytes are the ones consumed. -/
theorem Operand.ofBytes_some (m : Mode) (bs rest : List Byte) (o : Operand)
    (h : Operand.ofBytes m bs = some (o, rest)) : o.mode = m ∧ bs = o.bytes ++ rest := by
  unfold Operand.ofBytes at h
  split at h <;> simp at h
  all_goals (obtain ⟨rfl, rfl⟩ := h; simp [Operand.mode, Operand.bytes])

/-- An assembled instruction has the parts it was assembled from. -/
theorem assemble_some (m : Mnemonic) (o : Operand) (i : Instr) (h : assemble m o = some i) :
    i.mnemonic = m ∧ i.operand = o := by
  cases m <;> cases o <;> first | (cases h; exact ⟨rfl, rfl⟩) | cases h

/-- The row found for an opcode is the row of that opcode. -/
theorem rowOf_some (op : Byte) (r : Row) (h : rowOf op = some r) : r.opcode = op := by
  simpa using List.find?_some h

namespace Machine

/-- The bytes fetched are the opcode and as many operand bytes as its row's mode has. -/
theorem fetchBytes_of_row (s : State) (r : Row) (h : rowOf (s.read s.pc) = some r) :
    s.fetchBytes = s.read s.pc :: (s.afterReads [s.pc]).readBytes (s.pc + 1#16) r.mode.adv := by
  simp only [State.fetchBytes, opcodeLength, h, Nat.add_comm 1, State.readBytes]

@[simp] theorem length_readBytes (s : State) (a : Word) (n : Nat) : (s.readBytes a n).length = n := by
  induction n generalizing s a with
  | zero => rfl
  | succ n ih => simp [State.readBytes, ih]

@[simp] theorem length_operand_bytes (o : Operand) : o.bytes.length = o.mode.adv := by
  cases o <;> rfl

/-- When an instruction decodes at PC, its operand bytes are the ones read after the opcode. -/
theorem operand_of_decodeAt (s : State) (i : Instr) (h : s.decodeAt = .ok i) :
    i.operand.bytes = (s.afterReads [s.pc]).readBytes (s.pc + 1#16) i.mode.adv := by
  unfold State.decodeAt at h
  split at h
  · next i' rest hd =>
    cases h
    cases hr : rowOf (s.read s.pc) with
    | none => simp [State.fetchBytes, opcodeLength, hr, State.readBytes, decode] at hd
    | some r =>
      simp only [fetchBytes_of_row s r hr, decode, hr] at hd
      split at hd
      · cases hd
      · next o rest' ho =>
        split at hd
        · cases hd
        · next i' hi' =>
          cases hd
          obtain ⟨h1, h2⟩ := Operand.ofBytes_some _ _ _ _ ho
          obtain ⟨_, h4⟩ := assemble_some _ _ _ hi'
          rw [Instr.mode, h4, h1]
          have hn : rest.length = 0 := by
            have := congrArg List.length h2
            simp only [length_readBytes, List.length_append, length_operand_bytes, h1] at this
            omega
          rw [h2, List.eq_nil_of_length_eq_zero hn, List.append_nil]
  · cases h

end Machine

end Sys2Proof
end

