-- ==== Sys2Proof/Laws/Timing.lean ====
section
/-! SUPPORT. What the opcode map says of an instruction's count, and what a branch runs. -/

namespace Sys2Proof.Machine

/-- The counts and marks of the 151 rows (30_encoding.md R68, R69), read off the map by evaluation. -/
theorem rowOf_timing : ∀ op : BitVec 8, ∀ r ∈ rowOf op,
    2 ≤ r.cycles ∧ r.cycles ≤ 7 ∧ (r.penalty = true → r.cycles ≤ 5) ∧ (r.mode = .relative → r.cycles = 2) ∧
      (r.penalty = true ↔ r.mnemonic ∈ [.adc, .and, .cmp, .eor, .lda, .ldx, .ldy, .ora, .sbc] ∧
        r.mode ∈ [.absoluteX, .absoluteY, .indirectY]) := by decide +kernel

/-- Only a branch is ever taken. -/
theorem mode_of_branchTaken (i : Instr) (p : Flags) (h : branchTaken i.mnemonic p = true) : i.mode = .relative := by
  cases i <;> first | rfl | cases h

/-- What a branch runs: the branch helper under its own condition (47_branch_jump.md R190). -/
theorem opOf_relative (i : Instr) (h : i.mode = .relative) : opOf i.mnemonic = branch (branchTaken i.mnemonic) := by
  cases i <;> first | rfl | cases h

theorem operand_of_relative (i : Instr) (h : i.mode = .relative) : ∃ b, i.operand = .relative b := by
  cases i <;> first | exact ⟨_, rfl⟩ | cases h

end Sys2Proof.Machine
end

