-- ==== Sys2Proof/Tests/Slice0.lean ====
section
/-! SUPPORT. The model's own tests. Opcodes are written out from 30_encoding.md section 2, and every expected result of a
step comes from 95_test_vectors.md; a docstring names its row. The witnesses at the end meet the hypotheses of the
statements. -/

namespace Sys2Proof.Tests

open Sys2Proof Sys2Proof.Machine

/-- A core over empty plain RAM, PC at 0x0600, every other register and flag zero. -/
def cpu : State := { State.powerOn .ram64k [] with pc := 0x0600#16 }

/-- A core over an empty mirrored RAM of eight bytes, PC at 0x0600. -/
def mirrored : State := { State.powerOn (.mirrored .b8) [] with pc := 0x0600#16 }

/-- The state with these bytes stored from PC on. -/
def place (code : List Byte) (s : State) : State := s.storeBytes s.pc code

/-- What is seen of the state one step later, where there is one. -/
def after {α : Type} (look : State → α) (s : State) : Option α := (stateOf (step s)).map look

/-- Every byte list decodes, to the last byte, to the instruction beside it. -/
def decodesTo (rows : List (List Byte × Instr)) : Bool :=
  rows.all fun e => match decode e.1 with
    | .ok (i, []) => i == e.2
    | _ => false

/-! ## Well-formedness: each check refuses an ill-formed term -/

/-- STA has no Immediate form (30_encoding.md R63). -/
theorem test_wellFormed_refuses_sta_immediate : (Written.mk .sta .immediate [0x12#8]).wellFormed = false := by decide

/-- An Absolute operand has two bytes (30_encoding.md R61). -/
theorem test_wellFormed_refuses_one_byte_address : (Written.mk .lda .absolute [0x12#8]).wellFormed = false := by decide

/-- An Implied instruction has no operand byte (R61). -/
theorem test_wellFormed_refuses_operand_of_nop : (Written.mk .nop .implied [0x12#8]).wellFormed = false := by decide

/-- JMP alone has the Indirect form. -/
theorem test_wellFormed_refuses_jsr_indirect : (Written.mk .jsr .indirect [0x34#8, 0x12#8]).wellFormed = false := by decide

/-- A well-formed term passes. -/
theorem test_wellFormed_accepts_lda_absolute : (Written.mk .lda .absolute [0x34#8, 0x12#8]).wellFormed = true := by decide

/-! ## Decoding: one word for every constructor, bit by bit from the opcode map (30_encoding.md R63) -/

theorem test_decode_loads_1 : decodesTo
    [([0b10101001#8, 0x34#8], .ldaImmediate 0x34#8),
     ([0b10101101#8, 0x34#8, 0x12#8], .ldaAbsolute 0x1234#16),
     ([0b10111101#8, 0x34#8, 0x12#8], .ldaAbsoluteX 0x1234#16),
     ([0b10111001#8, 0x34#8, 0x12#8], .ldaAbsoluteY 0x1234#16),
     ([0b10100101#8, 0x34#8], .ldaZeroPage 0x34#8),
     ([0b10110101#8, 0x34#8], .ldaZeroPageX 0x34#8),
     ([0b10100001#8, 0x34#8], .ldaIndirectX 0x34#8),
     ([0b10110001#8, 0x34#8], .ldaIndirectY 0x34#8),
     ([0b10100010#8, 0x34#8], .ldxImmediate 0x34#8),
     ([0b10101110#8, 0x34#8, 0x12#8], .ldxAbsolute 0x1234#16),
     ([0b10111110#8, 0x34#8, 0x12#8], .ldxAbsoluteY 0x1234#16),
     ([0b10100110#8, 0x34#8], .ldxZeroPage 0x34#8)] = true := by decide

theorem test_decode_loads_2 : decodesTo
    [([0b10110110#8, 0x34#8], .ldxZeroPageY 0x34#8),
     ([0b10100000#8, 0x34#8], .ldyImmediate 0x34#8),
     ([0b10101100#8, 0x34#8, 0x12#8], .ldyAbsolute 0x1234#16),
     ([0b10111100#8, 0x34#8, 0x12#8], .ldyAbsoluteX 0x1234#16),
     ([0b10100100#8, 0x34#8], .ldyZeroPage 0x34#8),
     ([0b10110100#8, 0x34#8], .ldyZeroPageX 0x34#8)] = true := by decide

theorem test_decode_stores_1 : decodesTo
    [([0b10001101#8, 0x34#8, 0x12#8], .staAbsolute 0x1234#16),
     ([0b10011101#8, 0x34#8, 0x12#8], .staAbsoluteX 0x1234#16),
     ([0b10011001#8, 0x34#8, 0x12#8], .staAbsoluteY 0x1234#16),
     ([0b10000101#8, 0x34#8], .staZeroPage 0x34#8),
     ([0b10010101#8, 0x34#8], .staZeroPageX 0x34#8),
     ([0b10000001#8, 0x34#8], .staIndirectX 0x34#8),
     ([0b10010001#8, 0x34#8], .staIndirectY 0x34#8),
     ([0b10001110#8, 0x34#8, 0x12#8], .stxAbsolute 0x1234#16),
     ([0b10000110#8, 0x34#8], .stxZeroPage 0x34#8),
     ([0b10010110#8, 0x34#8], .stxZeroPageY 0x34#8),
     ([0b10001100#8, 0x34#8, 0x12#8], .styAbsolute 0x1234#16),
     ([0b10000100#8, 0x34#8], .styZeroPage 0x34#8)] = true := by decide

theorem test_decode_stores_2 : decodesTo
    [([0b10010100#8, 0x34#8], .styZeroPageX 0x34#8)] = true := by decide

theorem test_decode_transfers : decodesTo
    [([0b10101010#8], .tax),
     ([0b10101000#8], .tay),
     ([0b10111010#8], .tsx),
     ([0b10001010#8], .txa),
     ([0b10011010#8], .txs),
     ([0b10011000#8], .tya)] = true := by decide

theorem test_decode_stack : decodesTo
    [([0b01001000#8], .pha),
     ([0b00001000#8], .php),
     ([0b01101000#8], .pla),
     ([0b00101000#8], .plp)] = true := by decide

theorem test_decode_logic_1 : decodesTo
    [([0b00101001#8, 0x34#8], .andImmediate 0x34#8),
     ([0b00101101#8, 0x34#8, 0x12#8], .andAbsolute 0x1234#16),
     ([0b00111101#8, 0x34#8, 0x12#8], .andAbsoluteX 0x1234#16),
     ([0b00111001#8, 0x34#8, 0x12#8], .andAbsoluteY 0x1234#16),
     ([0b00100101#8, 0x34#8], .andZeroPage 0x34#8),
     ([0b00110101#8, 0x34#8], .andZeroPageX 0x34#8),
     ([0b00100001#8, 0x34#8], .andIndirectX 0x34#8),
     ([0b00110001#8, 0x34#8], .andIndirectY 0x34#8),
     ([0b00001001#8, 0x34#8], .oraImmediate 0x34#8),
     ([0b00001101#8, 0x34#8, 0x12#8], .oraAbsolute 0x1234#16),
     ([0b00011101#8, 0x34#8, 0x12#8], .oraAbsoluteX 0x1234#16),
     ([0b00011001#8, 0x34#8, 0x12#8], .oraAbsoluteY 0x1234#16)] = true := by decide

theorem test_decode_logic_2 : decodesTo
    [([0b00000101#8, 0x34#8], .oraZeroPage 0x34#8),
     ([0b00010101#8, 0x34#8], .oraZeroPageX 0x34#8),
     ([0b00000001#8, 0x34#8], .oraIndirectX 0x34#8),
     ([0b00010001#8, 0x34#8], .oraIndirectY 0x34#8),
     ([0b01001001#8, 0x34#8], .eorImmediate 0x34#8),
     ([0b01001101#8, 0x34#8, 0x12#8], .eorAbsolute 0x1234#16),
     ([0b01011101#8, 0x34#8, 0x12#8], .eorAbsoluteX 0x1234#16),
     ([0b01011001#8, 0x34#8, 0x12#8], .eorAbsoluteY 0x1234#16),
     ([0b01000101#8, 0x34#8], .eorZeroPage 0x34#8),
     ([0b01010101#8, 0x34#8], .eorZeroPageX 0x34#8),
     ([0b01000001#8, 0x34#8], .eorIndirectX 0x34#8),
     ([0b01010001#8, 0x34#8], .eorIndirectY 0x34#8)] = true := by decide

theorem test_decode_logic_3 : decodesTo
    [([0b00101100#8, 0x34#8, 0x12#8], .bitAbsolute 0x1234#16),
     ([0b00100100#8, 0x34#8], .bitZeroPage 0x34#8)] = true := by decide

theorem test_decode_shifts_1 : decodesTo
    [([0b00001010#8], .aslAccumulator),
     ([0b00001110#8, 0x34#8, 0x12#8], .aslAbsolute 0x1234#16),
     ([0b00011110#8, 0x34#8, 0x12#8], .aslAbsoluteX 0x1234#16),
     ([0b00000110#8, 0x34#8], .aslZeroPage 0x34#8),
     ([0b00010110#8, 0x34#8], .aslZeroPageX 0x34#8),
     ([0b01001010#8], .lsrAccumulator),
     ([0b01001110#8, 0x34#8, 0x12#8], .lsrAbsolute 0x1234#16),
     ([0b01011110#8, 0x34#8, 0x12#8], .lsrAbsoluteX 0x1234#16),
     ([0b01000110#8, 0x34#8], .lsrZeroPage 0x34#8),
     ([0b01010110#8, 0x34#8], .lsrZeroPageX 0x34#8),
     ([0b00101010#8], .rolAccumulator),
     ([0b00101110#8, 0x34#8, 0x12#8], .rolAbsolute 0x1234#16)] = true := by decide

theorem test_decode_shifts_2 : decodesTo
    [([0b00111110#8, 0x34#8, 0x12#8], .rolAbsoluteX 0x1234#16),
     ([0b00100110#8, 0x34#8], .rolZeroPage 0x34#8),
     ([0b00110110#8, 0x34#8], .rolZeroPageX 0x34#8),
     ([0b01101010#8], .rorAccumulator),
     ([0b01101110#8, 0x34#8, 0x12#8], .rorAbsolute 0x1234#16),
     ([0b01111110#8, 0x34#8, 0x12#8], .rorAbsoluteX 0x1234#16),
     ([0b01100110#8, 0x34#8], .rorZeroPage 0x34#8),
     ([0b01110110#8, 0x34#8], .rorZeroPageX 0x34#8)] = true := by decide

theorem test_decode_adc_sbc_1 : decodesTo
    [([0b01101001#8, 0x34#8], .adcImmediate 0x34#8),
     ([0b01101101#8, 0x34#8, 0x12#8], .adcAbsolute 0x1234#16),
     ([0b01111101#8, 0x34#8, 0x12#8], .adcAbsoluteX 0x1234#16),
     ([0b01111001#8, 0x34#8, 0x12#8], .adcAbsoluteY 0x1234#16),
     ([0b01100101#8, 0x34#8], .adcZeroPage 0x34#8),
     ([0b01110101#8, 0x34#8], .adcZeroPageX 0x34#8),
     ([0b01100001#8, 0x34#8], .adcIndirectX 0x34#8),
     ([0b01110001#8, 0x34#8], .adcIndirectY 0x34#8),
     ([0b11101001#8, 0x34#8], .sbcImmediate 0x34#8),
     ([0b11101101#8, 0x34#8, 0x12#8], .sbcAbsolute 0x1234#16),
     ([0b11111101#8, 0x34#8, 0x12#8], .sbcAbsoluteX 0x1234#16),
     ([0b11111001#8, 0x34#8, 0x12#8], .sbcAbsoluteY 0x1234#16)] = true := by decide

theorem test_decode_adc_sbc_2 : decodesTo
    [([0b11100101#8, 0x34#8], .sbcZeroPage 0x34#8),
     ([0b11110101#8, 0x34#8], .sbcZeroPageX 0x34#8),
     ([0b11100001#8, 0x34#8], .sbcIndirectX 0x34#8),
     ([0b11110001#8, 0x34#8], .sbcIndirectY 0x34#8)] = true := by decide

theorem test_decode_compares_1 : decodesTo
    [([0b11001001#8, 0x34#8], .cmpImmediate 0x34#8),
     ([0b11001101#8, 0x34#8, 0x12#8], .cmpAbsolute 0x1234#16),
     ([0b11011101#8, 0x34#8, 0x12#8], .cmpAbsoluteX 0x1234#16),
     ([0b11011001#8, 0x34#8, 0x12#8], .cmpAbsoluteY 0x1234#16),
     ([0b11000101#8, 0x34#8], .cmpZeroPage 0x34#8),
     ([0b11010101#8, 0x34#8], .cmpZeroPageX 0x34#8),
     ([0b11000001#8, 0x34#8], .cmpIndirectX 0x34#8),
     ([0b11010001#8, 0x34#8], .cmpIndirectY 0x34#8),
     ([0b11100000#8, 0x34#8], .cpxImmediate 0x34#8),
     ([0b11101100#8, 0x34#8, 0x12#8], .cpxAbsolute 0x1234#16),
     ([0b11100100#8, 0x34#8], .cpxZeroPage 0x34#8),
     ([0b11000000#8, 0x34#8], .cpyImmediate 0x34#8)] = true := by decide

theorem test_decode_compares_2 : decodesTo
    [([0b11001100#8, 0x34#8, 0x12#8], .cpyAbsolute 0x1234#16),
     ([0b11000100#8, 0x34#8], .cpyZeroPage 0x34#8)] = true := by decide

theorem test_decode_inc_dec : decodesTo
    [([0b11101110#8, 0x34#8, 0x12#8], .incAbsolute 0x1234#16),
     ([0b11111110#8, 0x34#8, 0x12#8], .incAbsoluteX 0x1234#16),
     ([0b11100110#8, 0x34#8], .incZeroPage 0x34#8),
     ([0b11110110#8, 0x34#8], .incZeroPageX 0x34#8),
     ([0b11001110#8, 0x34#8, 0x12#8], .decAbsolute 0x1234#16),
     ([0b11011110#8, 0x34#8, 0x12#8], .decAbsoluteX 0x1234#16),
     ([0b11000110#8, 0x34#8], .decZeroPage 0x34#8),
     ([0b11010110#8, 0x34#8], .decZeroPageX 0x34#8),
     ([0b11101000#8], .inx),
     ([0b11001010#8], .dex),
     ([0b11001000#8], .iny),
     ([0b10001000#8], .dey)] = true := by decide

theorem test_decode_branches : decodesTo
    [([0b10010000#8, 0x34#8], .bcc 0x34#8),
     ([0b10110000#8, 0x34#8], .bcs 0x34#8),
     ([0b11110000#8, 0x34#8], .beq 0x34#8),
     ([0b11010000#8, 0x34#8], .bne 0x34#8),
     ([0b00110000#8, 0x34#8], .bmi 0x34#8),
     ([0b00010000#8, 0x34#8], .bpl 0x34#8),
     ([0b01010000#8, 0x34#8], .bvc 0x34#8),
     ([0b01110000#8, 0x34#8], .bvs 0x34#8)] = true := by decide

theorem test_decode_jumps : decodesTo
    [([0b01001100#8, 0x34#8, 0x12#8], .jmpAbsolute 0x1234#16),
     ([0b01101100#8, 0x34#8, 0x12#8], .jmpIndirect 0x1234#16),
     ([0b00100000#8, 0x34#8, 0x12#8], .jsr 0x1234#16),
     ([0b01100000#8], .rts)] = true := by decide

theorem test_decode_flags_and_nop : decodesTo
    [([0b00011000#8], .clc),
     ([0b00111000#8], .sec),
     ([0b11011000#8], .cld),
     ([0b11111000#8], .sed),
     ([0b01011000#8], .cli),
     ([0b01111000#8], .sei),
     ([0b10111000#8], .clv),
     ([0b11101010#8], .nop)] = true := by decide

theorem test_decode_brk_rti : decodesTo
    [([0b00000000#8], .brk),
     ([0b01000000#8], .rti)] = true := by decide

/-- The first word of the table's numbering holds the opcode in bits 7 to 0, the operand bytes above it. -/
theorem test_decodeTableWord : decodeTableWord 24 0x1234BD = some (.ldaAbsoluteX 0x1234#16) := by decide

/-- Bits above the row's are zero: the operand bytes of a row whose table gives the opcode alone. -/
theorem test_decodeTableWord_short : decodeTableWord 8 0xBD = some (.ldaAbsoluteX 0x0000#16) := by decide

theorem test_decodeTableWord_unmapped : decodeTableWord 8 0x02 = none := by decide

/-- The placed word runs as the first instruction after reset. -/
theorem test_withFetchWord_at_reset : after (fun t => (t.a, t.p.n, t.pc)) (State.reset.withFetchWord 16 0x80A9)
    = some (0x80#8, true, 0x0002#16) := by decide

/-! ## One step, by the rows of 95_test_vectors.md -/

/-- "LDA imm negative"; 2 cycles. -/
theorem test_ldaImmediate :
    let s := place [0xA9#8, 0x80#8] cpu
    after (fun t => (t.a, t.p.view, t.pc)) s = some (0x80#8, 0xA0#8, 0x0602#16) ∧ stepCycles s = 2 := by decide

/-- "LDA zp,X wraps in page 0"; 4 cycles. -/
theorem test_ldaZeroPageX :
    let s := place [0xB5#8, 0xF0#8] { cpu with x := 0x20#8, mem := [(0x0010, 0x77#8), (0x0110, 0x99#8)] }
    after (fun t => (t.a, t.p.view, t.pc)) s = some (0x77#8, 0x20#8, 0x0602#16) ∧ stepCycles s = 4 := by decide

/-- "LDA abs,X page crossed"; 5 cycles. -/
theorem test_ldaAbsoluteX :
    let s := place [0xBD#8, 0xF0#8, 0x12#8] { cpu with x := 0x20#8, mem := [(0x1310, 0x42#8)] }
    after (fun t => (t.a, t.p.view, t.pc)) s = some (0x42#8, 0x20#8, 0x0603#16) ∧ stepCycles s = 5 := by decide

/-- "LDA abs,Y wraps past FFFF"; 5 cycles. -/
theorem test_ldaAbsoluteY :
    let s := place [0xB9#8, 0xFF#8, 0xFF#8] { cpu with y := 0x02#8, mem := [(0x0001, 0x5A#8)] }
    after (fun t => (t.a, t.p.view, t.pc)) s = some (0x5A#8, 0x20#8, 0x0603#16) ∧ stepCycles s = 5 := by decide

/-- "LDA (zp,X) pointer wraps"; 6 cycles. -/
theorem test_ldaIndirectX :
    let s := place [0xA1#8, 0xF6#8] { cpu with x := 0x11#8, mem := [(0x0007, 0x34#8), (0x0008, 0x12#8), (0x1234, 0xC3#8)] }
    after (fun t => (t.a, t.p.view, t.pc)) s = some (0xC3#8, 0xA0#8, 0x0602#16) ∧ stepCycles s = 6 := by decide

/-- "LDA (zp),Y crossed"; 6 cycles. -/
theorem test_ldaIndirectY :
    let s := place [0xB1#8, 0x10#8] { cpu with y := 0x20#8, mem := [(0x0010, 0xF0#8), (0x0011, 0x12#8)] }
    after (fun t => (t.p.view, t.pc)) s = some (0x22#8, 0x0602#16) ∧ stepCycles s = 6 := by decide

/-- "LDX zp,Y wraps"; 4 cycles. -/
theorem test_ldxZeroPageY :
    let s := place [0xB6#8, 0x80#8] { cpu with y := 0x90#8, mem := [(0x0010, 0x01#8)] }
    after (fun t => (t.x, t.p.view, t.pc)) s = some (0x01#8, 0x20#8, 0x0602#16) ∧ stepCycles s = 4 := by decide

/-- "LDY abs,X crossed"; 5 cycles. -/
theorem test_ldyAbsoluteX :
    let s := place [0xBC#8, 0xFF#8, 0x20#8] { cpu with x := 0x01#8, mem := [(0x2100, 0x80#8)] }
    after (fun t => (t.y, t.p.view, t.pc)) s = some (0x80#8, 0xA0#8, 0x0603#16) ∧ stepCycles s = 5 := by decide

/-- "STA abs (flags kept)"; 4 cycles. -/
theorem test_staAbsolute :
    let s := place [0x8D#8, 0x34#8, 0x12#8] { cpu with p := Flags.ofByte 0xA0#8 }
    after (fun t => (t.read 0x1234#16, t.p.view, t.pc)) s = some (0x00#8, 0xA0#8, 0x0603#16) ∧ stepCycles s = 4 := by decide

/-- "STA abs,X crossed, no penalty"; 5 cycles. -/
theorem test_staAbsoluteX :
    let s := place [0x9D#8, 0xF0#8, 0x12#8] { cpu with a := 0xAA#8, x := 0x20#8 }
    after (fun t => (t.read 0x1310#16, t.p.view, t.pc)) s = some (0xAA#8, 0x20#8, 0x0603#16) ∧ stepCycles s = 5 := by decide

/-- "STA (zp),Y"; 6 cycles. -/
theorem test_staIndirectY :
    let s := place [0x91#8, 0x10#8] { cpu with a := 0xBB#8, y := 0x20#8, mem := [(0x0010, 0xF0#8), (0x0011, 0x12#8)] }
    after (fun t => (t.read 0x1310#16, t.p.view, t.pc)) s = some (0xBB#8, 0x20#8, 0x0602#16) ∧ stepCycles s = 6 := by decide

/-- "STA (zp,X)"; 6 cycles. -/
theorem test_staIndirectX :
    let s := place [0x81#8, 0x20#8] { cpu with a := 0xCC#8, x := 0x04#8, mem := [(0x0025, 0x30#8)] }
    after (fun t => (t.read 0x3000#16, t.p.view, t.pc)) s = some (0xCC#8, 0x20#8, 0x0602#16) ∧ stepCycles s = 6 := by decide

/-- "STX zp,Y"; 4 cycles. -/
theorem test_stxZeroPageY :
    let s := place [0x96#8, 0xFF#8] { cpu with x := 0x11#8, y := 0x02#8 }
    after (fun t => (t.read 0x0001#16, t.p.view, t.pc)) s = some (0x11#8, 0x20#8, 0x0602#16) ∧ stepCycles s = 4 := by decide

/-- "STY zp,X"; 4 cycles. -/
theorem test_styZeroPageX :
    let s := place [0x94#8, 0x10#8] { cpu with x := 0x05#8, y := 0x22#8 }
    after (fun t => (t.read 0x0015#16, t.p.view, t.pc)) s = some (0x22#8, 0x20#8, 0x0602#16) ∧ stepCycles s = 4 := by decide

/-- "TAX zero"; 2 cycles. -/
theorem test_tax :
    let s := place [0xAA#8] { cpu with x := 0x55#8 }
    after (fun t => (t.x, t.p.view, t.pc)) s = some (0x00#8, 0x22#8, 0x0601#16) ∧ stepCycles s = 2 := by decide

/-- "TAY negative"; 2 cycles. -/
theorem test_tay :
    let s := place [0xA8#8] { cpu with a := 0x80#8 }
    after (fun t => (t.y, t.p.view, t.pc)) s = some (0x80#8, 0xA0#8, 0x0601#16) ∧ stepCycles s = 2 := by decide

/-- "TSX"; 2 cycles. -/
theorem test_tsx :
    let s := place [0xBA#8] { cpu with sp := 0xFD#8 }
    after (fun t => (t.x, t.p.view, t.pc)) s = some (0xFD#8, 0xA0#8, 0x0601#16) ∧ stepCycles s = 2 := by decide

/-- "TXA"; 2 cycles. -/
theorem test_txa :
    let s := place [0x8A#8] { cpu with a := 0x80#8, x := 0x7F#8, p := Flags.ofByte 0xA0#8 }
    after (fun t => (t.a, t.p.view, t.pc)) s = some (0x7F#8, 0x20#8, 0x0601#16) ∧ stepCycles s = 2 := by decide

/-- "TXS no flags"; 2 cycles. -/
theorem test_txs :
    let s := place [0x9A#8] { cpu with sp := 0xFD#8, p := Flags.ofByte 0xA0#8 }
    after (fun t => (t.sp, t.p.view, t.pc)) s = some (0x00#8, 0xA0#8, 0x0601#16) ∧ stepCycles s = 2 := by decide

/-- "TYA"; 2 cycles. -/
theorem test_tya :
    let s := place [0x98#8] { cpu with y := 0xFF#8 }
    after (fun t => (t.a, t.p.view, t.pc)) s = some (0xFF#8, 0xA0#8, 0x0601#16) ∧ stepCycles s = 2 := by decide

/-- "PHA SP wraps"; 3 cycles. -/
theorem test_pha :
    let s := place [0x48#8] { cpu with a := 0x7E#8 }
    after (fun t => (t.sp, t.read 0x0100#16, t.p.view, t.pc)) s = some (0xFF#8, 0x7E#8, 0x20#8, 0x0601#16) ∧ stepCycles s = 3 := by decide

/-- "PHP all flags set"; 3 cycles. -/
theorem test_php :
    let s := place [0x08#8] { cpu with sp := 0xFD#8, p := Flags.ofByte 0xEF#8 }
    after (fun t => (t.sp, t.read 0x01FD#16, t.p.view, t.pc)) s = some (0xFC#8, 0xFF#8, 0xEF#8, 0x0601#16) ∧ stepCycles s = 3 := by decide

/-- "PLA SP wraps"; 4 cycles. -/
theorem test_pla :
    let s := place [0x68#8] { cpu with sp := 0xFF#8, mem := [(0x0100, 0x80#8)] }
    after (fun t => (t.sp, t.a, t.p.view, t.pc)) s = some (0x00#8, 0x80#8, 0xA0#8, 0x0601#16) ∧ stepCycles s = 4 := by decide

/-- "PLP FF"; 4 cycles. -/
theorem test_plp :
    let s := place [0x28#8] { cpu with sp := 0xFC#8, mem := [(0x01FD, 0xFF#8)] }
    after (fun t => (t.sp, t.p.view, t.pc)) s = some (0xFD#8, 0xEF#8, 0x0601#16) ∧ stepCycles s = 4 := by decide

/-- "AND imm"; 2 cycles. -/
theorem test_andImmediate :
    let s := place [0x29#8, 0x0F#8] { cpu with a := 0xF5#8 }
    after (fun t => (t.a, t.p.view, t.pc)) s = some (0x05#8, 0x20#8, 0x0602#16) ∧ stepCycles s = 2 := by decide

/-- "ORA negative"; 2 cycles. -/
theorem test_oraImmediate :
    let s := place [0x09#8, 0x80#8] { cpu with a := 0x01#8 }
    after (fun t => (t.a, t.p.view, t.pc)) s = some (0x81#8, 0xA0#8, 0x0602#16) ∧ stepCycles s = 2 := by decide

/-- "EOR"; 2 cycles. -/
theorem test_eorImmediate :
    let s := place [0x49#8, 0xFF#8] { cpu with a := 0x0F#8 }
    after (fun t => (t.a, t.p.view, t.pc)) s = some (0xF0#8, 0xA0#8, 0x0602#16) ∧ stepCycles s = 2 := by decide

/-- "AND abs,Y crossed"; 5 cycles. -/
theorem test_andAbsoluteY :
    let s := place [0x39#8, 0xFF#8, 0x10#8] { cpu with a := 0xFF#8, y := 0x01#8, mem := [(0x1100, 0x3C#8)] }
    after (fun t => (t.a, t.p.view, t.pc)) s = some (0x3C#8, 0x20#8, 0x0603#16) ∧ stepCycles s = 5 := by decide

/-- "BIT zp: Z=1,N=1,V=1"; 3 cycles. -/
theorem test_bitZeroPage :
    let s := place [0x24#8, 0x10#8] { cpu with a := 0x01#8, mem := [(0x0010, 0xC0#8)] }
    after (fun t => (t.p.view, t.pc)) s = some (0xE2#8, 0x0602#16) ∧ stepCycles s = 3 := by decide

/-- "BIT abs: Z=0,N=0,V=0"; 4 cycles. -/
theorem test_bitAbsolute :
    let s := place [0x2C#8, 0x00#8, 0x20#8] { cpu with a := 0x0F#8, p := Flags.ofByte 0xE0#8, mem := [(0x2000, 0x01#8)] }
    after (fun t => (t.p.view, t.pc)) s = some (0x20#8, 0x0603#16) ∧ stepCycles s = 4 := by decide

/-- "ASL A"; 2 cycles. -/
theorem test_aslAccumulator :
    let s := place [0x0A#8] { cpu with a := 0x81#8 }
    after (fun t => (t.a, t.p.view, t.pc)) s = some (0x02#8, 0x21#8, 0x0601#16) ∧ stepCycles s = 2 := by decide

/-- "LSR A"; 2 cycles. -/
theorem test_lsrAccumulator :
    let s := place [0x4A#8] { cpu with a := 0x01#8, p := Flags.ofByte 0xA0#8 }
    after (fun t => (t.a, t.p.view, t.pc)) s = some (0x00#8, 0x23#8, 0x0601#16) ∧ stepCycles s = 2 := by decide

/-- "LSR zp"; 5 cycles. -/
theorem test_lsrZeroPage :
    let s := place [0x46#8, 0x10#8] { cpu with mem := [(0x0010, 0xFE#8)] }
    after (fun t => (t.read 0x0010#16, t.p.view, t.pc)) s = some (0x7F#8, 0x20#8, 0x0602#16) ∧ stepCycles s = 5 := by decide

/-- "ROL A carry in"; 2 cycles. -/
theorem test_rolAccumulator :
    let s := place [0x2A#8] { cpu with a := 0x40#8, p := Flags.ofByte 0x21#8 }
    after (fun t => (t.a, t.p.view, t.pc)) s = some (0x81#8, 0xA0#8, 0x0601#16) ∧ stepCycles s = 2 := by decide

/-- "ROL abs"; 6 cycles. -/
theorem test_rolAbsolute :
    let s := place [0x2E#8, 0x00#8, 0x20#8] { cpu with mem := [(0x2000, 0x80#8)] }
    after (fun t => (t.read 0x2000#16, t.p.view, t.pc)) s = some (0x00#8, 0x23#8, 0x0603#16) ∧ stepCycles s = 6 := by decide

/-- "ROR A carry in"; 2 cycles. -/
theorem test_rorAccumulator :
    let s := place [0x6A#8] { cpu with a := 0x01#8, p := Flags.ofByte 0x21#8 }
    after (fun t => (t.a, t.p.view, t.pc)) s = some (0x80#8, 0xA1#8, 0x0601#16) ∧ stepCycles s = 2 := by decide

/-- "ROR zp,X"; 6 cycles. -/
theorem test_rorZeroPageX :
    let s := place [0x76#8, 0x10#8] { cpu with x := 0x01#8, mem := [(0x0011, 0x02#8)] }
    after (fun t => (t.read 0x0011#16, t.p.view, t.pc)) s = some (0x01#8, 0x20#8, 0x0602#16) ∧ stepCycles s = 6 := by decide

/-- "ASL abs,X crossed, 7 always"; 7 cycles. -/
theorem test_aslAbsoluteX :
    let s := place [0x1E#8, 0xFF#8, 0x20#8] { cpu with x := 0x01#8, mem := [(0x2100, 0x55#8)] }
    after (fun t => (t.read 0x2100#16, t.p.view, t.pc)) s = some (0xAA#8, 0xA0#8, 0x0603#16) ∧ stepCycles s = 7 := by decide

/-- "ADC 7F+00+C"; 2 cycles. -/
theorem test_adcImmediate :
    let s := place [0x69#8, 0x00#8] { cpu with a := 0x7F#8, p := Flags.ofByte 0x21#8 }
    after (fun t => (t.a, t.p.view, t.pc)) s = some (0x80#8, 0xE0#8, 0x0602#16) ∧ stepCycles s = 2 := by decide

/-- "ADC (zp),Y crossed"; 6 cycles. -/
theorem test_adcIndirectY :
    let s := place [0x71#8, 0x10#8] { cpu with a := 0x01#8, y := 0xFF#8, mem := [(0x0010, 0x01#8), (0x0011, 0x20#8), (0x2100, 0x02#8)] }
    after (fun t => (t.a, t.p.view, t.pc)) s = some (0x03#8, 0x20#8, 0x0602#16) ∧ stepCycles s = 6 := by decide

/-- "SBC 80-01"; 2 cycles. -/
theorem test_sbcImmediate :
    let s := place [0xE9#8, 0x01#8] { cpu with a := 0x80#8, p := Flags.ofByte 0x21#8 }
    after (fun t => (t.a, t.p.view, t.pc)) s = some (0x7F#8, 0x61#8, 0x0602#16) ∧ stepCycles s = 2 := by decide

/-- "ADC 58+46+1"; 2 cycles. -/
theorem test_adcImmediate_2 :
    let s := place [0x69#8, 0x46#8] { cpu with a := 0x58#8, p := Flags.ofByte 0x29#8 }
    after (fun t => (t.a, t.p.view, t.pc)) s = some (0x05#8, 0x69#8, 0x0602#16) ∧ stepCycles s = 2 := by decide

/-- "SBC 12-46 C=1"; 2 cycles. -/
theorem test_sbcImmediate_2 :
    let s := place [0xE9#8, 0x46#8] { cpu with a := 0x12#8, p := Flags.ofByte 0x29#8 }
    after (fun t => (t.a, t.p.view, t.pc)) s = some (0x66#8, 0x28#8, 0x0602#16) ∧ stepCycles s = 2 := by decide

/-- "CMP less"; 2 cycles. -/
theorem test_cmpImmediate :
    let s := place [0xC9#8, 0x41#8] { cpu with a := 0x40#8 }
    after (fun t => (t.p.view, t.pc)) s = some (0xA0#8, 0x0602#16) ∧ stepCycles s = 2 := by decide

/-- "CPX zp"; 3 cycles. -/
theorem test_cpxZeroPage :
    let s := place [0xE4#8, 0x10#8] { cpu with x := 0x10#8, mem := [(0x0010, 0x20#8)] }
    after (fun t => (t.p.view, t.pc)) s = some (0xA0#8, 0x0602#16) ∧ stepCycles s = 3 := by decide

/-- "CPY imm"; 2 cycles. -/
theorem test_cpyImmediate :
    let s := place [0xC0#8, 0x00#8] cpu
    after (fun t => (t.p.view, t.pc)) s = some (0x23#8, 0x0602#16) ∧ stepCycles s = 2 := by decide

/-- "INC abs 7F->80"; 6 cycles. -/
theorem test_incAbsolute :
    let s := place [0xEE#8, 0x00#8, 0x20#8] { cpu with mem := [(0x2000, 0x7F#8)] }
    after (fun t => (t.read 0x2000#16, t.p.view, t.pc)) s = some (0x80#8, 0xA0#8, 0x0603#16) ∧ stepCycles s = 6 := by decide

/-- "DEC zp 00->FF"; 5 cycles. -/
theorem test_decZeroPage :
    let s := place [0xC6#8, 0x10#8] cpu
    after (fun t => (t.read 0x0010#16, t.p.view, t.pc)) s = some (0xFF#8, 0xA0#8, 0x0602#16) ∧ stepCycles s = 5 := by decide

/-- "DEC abs,X 01->00"; 7 cycles. -/
theorem test_decAbsoluteX :
    let s := place [0xDE#8, 0x00#8, 0x20#8] { cpu with x := 0x05#8, mem := [(0x2005, 0x01#8)] }
    after (fun t => (t.read 0x2005#16, t.p.view, t.pc)) s = some (0x00#8, 0x22#8, 0x0603#16) ∧ stepCycles s = 7 := by decide

/-- "INX wraps"; 2 cycles. -/
theorem test_inx :
    let s := place [0xE8#8] { cpu with x := 0xFF#8 }
    after (fun t => (t.x, t.p.view, t.pc)) s = some (0x00#8, 0x22#8, 0x0601#16) ∧ stepCycles s = 2 := by decide

/-- "DEX to zero"; 2 cycles. -/
theorem test_dex :
    let s := place [0xCA#8] { cpu with x := 0x01#8 }
    after (fun t => (t.x, t.p.view, t.pc)) s = some (0x00#8, 0x22#8, 0x0601#16) ∧ stepCycles s = 2 := by decide

/-- "INY"; 2 cycles. -/
theorem test_iny :
    let s := place [0xC8#8] { cpu with y := 0x7F#8 }
    after (fun t => (t.y, t.p.view, t.pc)) s = some (0x80#8, 0xA0#8, 0x0601#16) ∧ stepCycles s = 2 := by decide

/-- "DEY wraps"; 2 cycles. -/
theorem test_dey :
    let s := place [0x88#8] cpu
    after (fun t => (t.y, t.p.view, t.pc)) s = some (0xFF#8, 0xA0#8, 0x0601#16) ∧ stepCycles s = 2 := by decide

/-- "INC keeps C,V"; 5 cycles. -/
theorem test_incZeroPage :
    let s := place [0xE6#8, 0x10#8] { cpu with p := Flags.ofByte 0x61#8 }
    after (fun t => (t.read 0x0010#16, t.p.view, t.pc)) s = some (0x01#8, 0x61#8, 0x0602#16) ∧ stepCycles s = 5 := by decide

/-- "BEQ taken forward"; 3 cycles. -/
theorem test_beq :
    let s := place [0xF0#8, 0x10#8] { cpu with pc := 0x2000#16, p := Flags.ofByte 0x22#8 }
    after (fun t => (t.p.view, t.pc)) s = some (0x22#8, 0x2012#16) ∧ stepCycles s = 3 := by decide

/-- "BCC taken, crosses"; 4 cycles. -/
theorem test_bcc :
    let s := place [0x90#8, 0x20#8] { cpu with pc := 0x10F0#16 }
    after (fun t => (t.p.view, t.pc)) s = some (0x20#8, 0x1112#16) ∧ stepCycles s = 4 := by decide

/-- "BCS taken, crosses back"; 4 cycles. -/
theorem test_bcs :
    let s := place [0xB0#8, 0xFC#8] { cpu with pc := 0x1000#16, p := Flags.ofByte 0x21#8 }
    after (fun t => (t.p.view, t.pc)) s = some (0x21#8, 0x0FFE#16) ∧ stepCycles s = 4 := by decide

/-- "BMI offset 7F"; 3 cycles. -/
theorem test_bmi :
    let s := place [0x30#8, 0x7F#8] { cpu with pc := 0x1000#16, p := Flags.ofByte 0xA0#8 }
    after (fun t => (t.p.view, t.pc)) s = some (0xA0#8, 0x1081#16) ∧ stepCycles s = 3 := by decide

/-- "BPL offset 80"; 4 cycles. -/
theorem test_bpl :
    let s := place [0x10#8, 0x80#8] { cpu with pc := 0x1000#16 }
    after (fun t => (t.p.view, t.pc)) s = some (0x20#8, 0x0F82#16) ∧ stepCycles s = 4 := by decide

/-- "BVC wraps FFFF"; 4 cycles. -/
theorem test_bvc :
    let s := place [0x50#8, 0x04#8] { cpu with pc := 0xFFFC#16 }
    after (fun t => (t.p.view, t.pc)) s = some (0x20#8, 0x0002#16) ∧ stepCycles s = 4 := by decide

/-- "BVS to itself"; 3 cycles. -/
theorem test_bvs :
    let s := place [0x70#8, 0xFE#8] { cpu with pc := 0x1000#16, p := Flags.ofByte 0x60#8 }
    after (fun t => (t.p.view, t.pc)) s = some (0x60#8, 0x1000#16) ∧ stepCycles s = 3 := by decide

/-- "BNE at page end (next on new page)"; 3 cycles. -/
theorem test_bne :
    let s := place [0xD0#8, 0x02#8] { cpu with pc := 0x10FE#16 }
    after (fun t => (t.p.view, t.pc)) s = some (0x20#8, 0x1102#16) ∧ stepCycles s = 3 := by decide

/-- "JMP abs"; 3 cycles. -/
theorem test_jmpAbsolute :
    let s := place [0x4C#8, 0x00#8, 0x06#8] { cpu with pc := 0x1000#16 }
    after (fun t => (t.p.view, t.pc)) s = some (0x20#8, 0x0600#16) ∧ stepCycles s = 3 := by decide

/-- "JMP (ind) page bug"; 5 cycles. -/
theorem test_jmpIndirect :
    let s := place [0x6C#8, 0xFF#8, 0x01#8] { cpu with pc := 0x1000#16, mem := [(0x0100, 0x12#8), (0x01FF, 0x34#8), (0x0200, 0x56#8)] }
    after (fun t => (t.p.view, t.pc)) s = some (0x20#8, 0x1234#16) ∧ stepCycles s = 5 := by decide

/-- "RTS pulled FFFF"; 6 cycles. -/
theorem test_rts :
    let s := place [0x60#8] { cpu with pc := 0x1234#16, sp := 0xFB#8, mem := [(0x01FC, 0xFF#8), (0x01FD, 0xFF#8)] }
    after (fun t => (t.sp, t.p.view, t.pc)) s = some (0xFD#8, 0x20#8, 0x0000#16) ∧ stepCycles s = 6 := by decide

/-- "JSR SP wraps"; 6 cycles. -/
theorem test_jsr :
    let s := place [0x20#8, 0x00#8, 0x30#8] cpu
    after (fun t => (t.sp, t.read 0x0100#16, t.read 0x01FF#16, t.p.view, t.pc)) s = some (0xFE#8, 0x06#8, 0x02#8, 0x20#8, 0x3000#16) ∧ stepCycles s = 6 := by decide

/-- "CLC"; 2 cycles. -/
theorem test_clc :
    let s := place [0x18#8] { cpu with p := Flags.ofByte 0xEF#8 }
    after (fun t => (t.p.view, t.pc)) s = some (0xEE#8, 0x0601#16) ∧ stepCycles s = 2 := by decide

/-- "SEC"; 2 cycles. -/
theorem test_sec :
    let s := place [0x38#8] cpu
    after (fun t => (t.p.view, t.pc)) s = some (0x21#8, 0x0601#16) ∧ stepCycles s = 2 := by decide

/-- "CLD"; 2 cycles. -/
theorem test_cld :
    let s := place [0xD8#8] { cpu with p := Flags.ofByte 0xEF#8 }
    after (fun t => (t.p.view, t.pc)) s = some (0xE7#8, 0x0601#16) ∧ stepCycles s = 2 := by decide

/-- "SED"; 2 cycles. -/
theorem test_sed :
    let s := place [0xF8#8] cpu
    after (fun t => (t.p.view, t.pc)) s = some (0x28#8, 0x0601#16) ∧ stepCycles s = 2 := by decide

/-- "CLI"; 2 cycles. -/
theorem test_cli :
    let s := place [0x58#8] { cpu with p := Flags.ofByte 0xEF#8 }
    after (fun t => (t.p.view, t.pc)) s = some (0xEB#8, 0x0601#16) ∧ stepCycles s = 2 := by decide

/-- "SEI"; 2 cycles. -/
theorem test_sei :
    let s := place [0x78#8] cpu
    after (fun t => (t.p.view, t.pc)) s = some (0x24#8, 0x0601#16) ∧ stepCycles s = 2 := by decide

/-- "CLV"; 2 cycles. -/
theorem test_clv :
    let s := place [0xB8#8] { cpu with p := Flags.ofByte 0xEF#8 }
    after (fun t => (t.p.view, t.pc)) s = some (0xAF#8, 0x0601#16) ∧ stepCycles s = 2 := by decide

/-- "NOP"; 2 cycles. -/
theorem test_nop :
    let s := place [0xEA#8] { cpu with p := Flags.ofByte 0xEF#8 }
    after (fun t => (t.p.view, t.pc)) s = some (0xEF#8, 0x0601#16) ∧ stepCycles s = 2 := by decide

/-- "BRK SP=01 wraps"; 7 cycles. -/
theorem test_brk :
    let s := place [0x00#8] { cpu with sp := 0x01#8, mem := [(0xFFFF, 0x80#8)] }
    after (fun t => (t.sp, t.read 0x0101#16, t.read 0x0100#16, t.read 0x01FF#16, t.p.view, t.pc)) s = some (0xFE#8, 0x06#8, 0x02#8, 0x30#8, 0x24#8, 0x8000#16) ∧ stepCycles s = 7 := by decide

/-- "RTI"; 6 cycles. -/
theorem test_rti :
    let s := place [0x40#8] { cpu with pc := 0x8000#16, sp := 0xFA#8, p := Flags.ofByte 0x24#8, mem := [(0x01FB, 0xB1#8), (0x01FC, 0x02#8), (0x01FD, 0x06#8)] }
    after (fun t => (t.sp, t.p.view, t.pc)) s = some (0xFD#8, 0xA1#8, 0x0602#16) ∧ stepCycles s = 6 := by decide

/-- "unmapped 80 (no store-immediate)" of the faults. -/
theorem test_unmapped_opcode_faults : faultOf (step (place [0x80#8, 0x01#8] cpu)) = some (.opcodeNotInSet 0x80#8) := by decide

/-- Scenario 3 of Part 1: BRK at 0xF0A0 over eight mirrored bytes. -/
theorem test_brk_over_mirrored_ram :
    after (fun t => (t.pc, t.sp, t.p.i, t.mem)) { mirrored with pc := 0xF0A0#16, sp := 0xFB#8, mem := [(6, 0x02#8), (7, 0xA0#8)] }
      = some (0xA002#16, 0xF8#8, true, [(1, 0x30#8), (2, 0xA2#8), (3, 0xF0#8), (6, 0x02#8), (7, 0xA0#8)]) := by decide

/-- "IRQ with flags N,C,D". -/
theorem test_triggerIrq :
    let t := ({ cpu with pc := 0x1234#16, sp := 0x80#8, p := Flags.ofByte 0xA9#8, mem := [(0xFFFF, 0x80#8)] } : State).triggerIrq
    (t.pc, t.sp, t.p.view, t.read 0x0180#16, t.read 0x017F#16, t.read 0x017E#16)
      = (0x8000#16, 0x7D#8, 0xAD#8, 0x12#8, 0x34#8, 0xA9#8) := by decide

/-- "NMI with I=1". -/
theorem test_triggerNmi :
    let t := ({ cpu with pc := 0x0605#16, sp := 0xFA#8, p := Flags.ofByte 0x24#8, mem := [(0xFFFB, 0x90#8)] } : State).triggerNmi
    (t.pc, t.sp, t.p.i, t.read 0x01F8#16) = (0x9000#16, 0xF7#8, true, 0x24#8) := by decide

/-- "reset". -/
theorem test_resetNow :
    let t := ({ cpu with pc := 0x1234#16, sp := 0x10#8, a := 0x55#8, x := 0x66#8, p := Flags.ofByte 0xEB#8, mem := [(0xFFFD, 0x04#8)] } : State).resetNow
    (t.pc, t.sp, t.a, t.x, t.p.view) = (0x0400#16, 0xFD#8, 0x00#8, 0x00#8, 0x24#8) := by decide

/-- The accesses of scenario 4 of Part 1, with the reads in their order. -/
theorem test_accesses_of_jmp_indirect :
    stepAccesses { cpu with pc := 0x02AA#16, mem := [(0x0000, 0xFF#8), (0x00FF, 0x80#8), (0x02AA, 0x6C#8), (0x02AB, 0xFF#8)] }
      = [.read 0x02AA#16, .read 0x02AB#16, .read 0x02AC#16, .read 0x00FF#16, .read 0x0000#16, .read 0xFF80#16] := by decide

/-- Cells of the mirrored RAM: the table of 95_test_vectors.md. -/
theorem test_mirrored_cells :
    [(Device.mirrored .b8).cell 0x000F#16, (Device.mirrored .b8).cell 0x01FB#16, (Device.mirrored .b64).cell 0x01FD#16,
      (Device.mirrored .b1024).cell 0x0600#16, (Device.mirrored .b1024).cell 0xFFFC#16] = [7, 3, 0x3D, 0x200, 0x3FC] := by decide

/-- Storing what an unlisted cell reads as takes the entry away again. -/
theorem test_write_keeps_the_canonical_form :
    ((cpu.write 0x1234#16 0x56#8).write 0x1234#16 0x00#8).mem = [] := by decide

/-! ## Witnesses: concrete states and operands that meet the hypotheses of each statement -/

/-- A core with SP at 0x00 and I clear, over plain RAM with a program: STA 0x12F0,X at 0xFFFE, across the wrap of PC. -/
def busy : State :=
  place [0x9D#8, 0xF0#8, 0x12#8] { cpu with pc := 0xFFFE#16, a := 0x80#8, x := 0x20#8, y := 0xFF#8, p := Flags.ofByte 0xA9#8 }

/-- The same over eight mirrored bytes. -/
def busyMirrored : State := { busy with device := .mirrored .b8, mem := [(0, 0x12#8), (6, 0x9D#8), (7, 0xF0#8)] }

/-- The core with an instruction at PC decodes to it, in this mode. -/
def Decodes (code : List Byte) (s : State) (i : Instr) (m : Mode) : Prop := (place code s).decodeAt = .ok i ∧ i.mode = m

/-- The same over an attached memory of its own kind (00_scope.md R4). -/
def busyAttached : State := { busy with device := .attached, mem := [] }

/-- The two hypotheses of most statements on the bytes of memory. -/
def Ram (s : State) : Prop := s.Inv ∧ s.device ≠ .attached

theorem ram_cpu : Ram cpu := ⟨⟨rfl, fun _ => rfl⟩, by decide⟩

theorem ram_busy : Ram busy := ⟨⟨rfl, fun _ => rfl⟩, by decide⟩

theorem ram_busyMirrored : Ram busyMirrored := ⟨⟨rfl, fun _ => rfl⟩, by decide⟩

theorem inv_busyAttached : busyAttached.Inv := ⟨rfl, fun _ => rfl⟩

theorem witness_EncodeOfDecodeIsTheBytes :
    decode [0x9D#8, 0xF0#8, 0x12#8, 0xEA#8] = .ok (.staAbsoluteX 0x12F0#16, [0xEA#8]) := rfl

theorem witness_AssembledExactlyWhenWellFormed :
    assemble .jmp (.indirect 0xFFFF#16) = some (.jmpIndirect 0xFFFF#16) ∧ assemble .jsr (.indirect 0xFFFF#16) = none := ⟨rfl, rfl⟩

theorem witness_StepRunsTheDecodedInstruction :
    decode busy.fetchBytes = .ok (.staAbsoluteX 0x12F0#16, []) ∧ busy.device ≠ .attached := ⟨rfl, by decide⟩

theorem witness_StepRunsTheEncodedInstruction :
    busy.readBytes busy.pc 3 = encode (.staAbsoluteX 0x12F0#16) ∧ busy.device ≠ .attached ∧
      ∀ (k : Nat) (b : Byte), (encode (.staAbsoluteX 0x12F0#16))[k]? = some b → busy.read (busy.pc + BitVec.ofNat 16 k) = b := by
  refine ⟨rfl, by decide, fun k b h => ?_⟩
  match k, h with
  | 0, h | 1, h | 2, h => exact Option.some.inj h
  | k + 3, h => cases h

theorem witness_LegalInstructionsAlwaysComplete :
    step (place [0xFF#8] cpu) = .fault (.opcodeNotInSet 0xFF#8) := rfl

theorem witness_UnmappedOpcodeFaultsAndCommitsNothing :
    rowOf ((place [0x02#8] cpu).read cpu.pc) = none ∧ rowOf ((place [0xFF#8] cpu).read cpu.pc) = none ∧
      (place [0x02#8] cpu).device ≠ .attached := by decide

theorem witness_StepKeepsTheInvariant :
    ∃ t, Ram busy ∧ step busy = .next t ∧ t.mem ≠ busy.mem := ⟨_, ram_busy, rfl, by decide⟩

theorem witness_TransactionsKeepTheInvariant :
    Ram busyMirrored ∧ Reaches busyMirrored ((busyMirrored.transact .step).transact .triggerNmi) ∧
      busyAttached.Inv ∧ Reaches busyAttached (busyAttached.transact .reset) :=
  ⟨ram_busyMirrored, .next _ _ _ (.next _ _ _ (.refl _)), inv_busyAttached, .next _ _ _ (.refl _)⟩

theorem witness_EqualReadsAreEqualMemories :
    let t := { busy with pc := 0x0000#16 }
    Ram busy ∧ t.Inv ∧ busy.device = t.device ∧ ∀ a : Word, busy.read a = t.read a := ⟨ram_busy, ram_busy.1, rfl, fun _ => rfl⟩

theorem witness_MirroredRamNamesCellsByLowBits :
    (busyMirrored.Inv ∧ busyMirrored.device = .mirrored .b8) ∧
      ({ cpu with device := .mirrored .b1024, mem := [(1023, 0xFF#8)] } : State).Inv :=
  ⟨⟨ram_busyMirrored.1, rfl⟩, rfl, fun _ => rfl⟩

theorem witness_PlainRamReadsTheLastWrite : busy.Inv ∧ busy.device = .ram64k := ⟨ram_busy.1, rfl⟩

theorem witness_UnindexedModesGiveTheirOperand :
    Decodes [0xEA#8] cpu .nop .implied ∧ Decodes [0xA9#8, 0xFF#8] cpu (.ldaImmediate 0xFF#8) .immediate ∧
      Decodes [0xAD#8, 0xFF#8, 0xFF#8] { cpu with pc := 0xFFFE#16 } (.ldaAbsolute 0xFFFF#16) .absolute ∧
      Decodes [0xA5#8, 0xFF#8] cpu (.ldaZeroPage 0xFF#8) .zeroPage := ⟨⟨rfl, rfl⟩, ⟨rfl, rfl⟩, ⟨rfl, rfl⟩, rfl, rfl⟩

theorem witness_ZeroPageIndexedModesWrapInPageZero :
    Decodes [0xB5#8, 0xFF#8] { cpu with x := 0xFF#8 } (.ldaZeroPageX 0xFF#8) .zeroPageX ∧
      Decodes [0xB6#8, 0xFF#8] { cpu with y := 0x01#8 } (.ldxZeroPageY 0xFF#8) .zeroPageY := ⟨⟨rfl, rfl⟩, rfl, rfl⟩

theorem witness_IndirectModeKeepsThePointerPage :
    Decodes [0x6C#8, 0xFF#8, 0x01#8] cpu (.jmpIndirect 0x01FF#16) .indirect := ⟨rfl, rfl⟩

theorem witness_ZeroPagePointerModes :
    Decodes [0xA1#8, 0xFF#8] { cpu with x := 0xFF#8 } (.ldaIndirectX 0xFF#8) .indirectX ∧
      Decodes [0xB1#8, 0xFF#8] { cpu with y := 0xFF#8 } (.ldaIndirectY 0xFF#8) .indirectY := ⟨⟨rfl, rfl⟩, rfl, rfl⟩

theorem witness_AbsoluteIndexedAccumulatorAndRelativeModes :
    Decodes [0xBD#8, 0xFF#8, 0xFF#8] { cpu with x := 0xFF#8 } (.ldaAbsoluteX 0xFFFF#16) .absoluteX ∧
      Decodes [0xB9#8, 0xFF#8, 0xFF#8] { cpu with y := 0x01#8 } (.ldaAbsoluteY 0xFFFF#16) .absoluteY ∧
      Decodes [0x0A#8] cpu .aslAccumulator .accumulator ∧
      Decodes [0x10#8, 0x80#8] { cpu with pc := 0xFFFE#16 } (.bpl 0x80#8) .relative :=
  ⟨⟨rfl, rfl⟩, ⟨rfl, rfl⟩, ⟨rfl, rfl⟩, rfl, rfl⟩

/-- SP at 0x00, where the slots of the stack wrap, on both RAMs. -/
theorem witness_PushAndPullOneByte : Ram busy ∧ Ram busyMirrored ∧ busy.sp = 0x00#8 := ⟨ram_busy, ram_busyMirrored, rfl⟩

theorem witness_PushAndPullAWord : Ram busy ∧ Ram busyMirrored ∧ busy.sp = 0x00#8 := ⟨ram_busy, ram_busyMirrored, rfl⟩

theorem witness_StackInstructions : Ram busy ∧ Ram busyMirrored := ⟨ram_busy, ram_busyMirrored⟩

theorem witness_BrkThenRtiReturnsPastThePadding : Ram busy ∧ Ram busyMirrored := ⟨ram_busy, ram_busyMirrored⟩

theorem witness_JsrThenRtsReturns : Ram busy ∧ Ram busyMirrored := ⟨ram_busy, ram_busyMirrored⟩

theorem witness_PushedStatusByte :
    (∃ t, Ram busyMirrored ∧ exec .php busyMirrored = .next t ∧ t.mem ≠ busyMirrored.mem) ∧
      (∃ t, Ram busy ∧ exec .brk busy = .next t ∧ t.pc ≠ busy.pc) ∧ busy.p.i = false :=
  ⟨⟨_, ram_busyMirrored, rfl, by decide⟩, ⟨_, ram_busy, rfl, by decide⟩, rfl⟩

theorem witness_InterruptSequence : Ram busy ∧ Ram busyMirrored ∧ busy.p.i = false ∧ busyMirrored.p.i = false :=
  ⟨ram_busy, ram_busyMirrored, rfl, rfl⟩

theorem witness_IrqIsMaskedByI : busy.p.i = false ∧ ({ busy with p := Flags.ofByte 0x04#8 } : State).p.i = true := by decide

theorem witness_ResetSetsEveryRegister : 
    let t := { busy with sp := 0xFF#8 }
    busy.mem = t.mem ∧ busy.device = t.device ∧ busy.calls = t.calls ∧ busy ≠ t := by decide

theorem witness_LoadsCopyTheOperand :
    (Instr.ldaIndirectY 0xFF#8).mnemonic = .lda ∧ (Instr.ldxZeroPageY 0xFF#8).mnemonic = .ldx ∧
      (Instr.ldyAbsoluteX 0xFFFF#16).mnemonic = .ldy := ⟨rfl, rfl, rfl⟩

theorem witness_StoresWriteTheRegister :
    Ram busy ∧ (Instr.staAbsoluteX 0xFFFF#16).mnemonic = .sta ∧ (Instr.stxZeroPageY 0xFF#8).mnemonic = .stx ∧
      (Instr.styAbsolute 0xFFFF#16).mnemonic = .sty := ⟨ram_busy, rfl, rfl, rfl⟩

theorem witness_LogicAndBitTest :
    (Instr.andAbsoluteY 0xFFFF#16).mnemonic = .and ∧ (Instr.oraImmediate 0x80#8).mnemonic = .ora ∧
      (Instr.eorImmediate 0xFF#8).mnemonic = .eor ∧ (Instr.bitZeroPage 0xFF#8).mnemonic = .bit := ⟨rfl, rfl, rfl, rfl⟩

theorem witness_ShiftsAndRotatesWriteBack :
    (Instr.aslAccumulator.mnemonic = .asl ∧ Instr.aslAccumulator.mode = .accumulator) ∧
      ((Instr.lsrAbsoluteX 0xFFFF#16).mnemonic = .lsr ∧ (Instr.lsrAbsoluteX 0xFFFF#16).mode ≠ .accumulator) ∧
      (Instr.rolZeroPage 0xFF#8).mnemonic = .rol ∧ (Instr.rorZeroPageX 0xFF#8).mnemonic = .ror := by decide

theorem witness_AdcBinaryAddsWithCarry : (Instr.adcImmediate 0xFF#8).mnemonic = .adc ∧ busy.p.c = true ∧ cpu.p.d = false := by decide

theorem witness_SbcBinarySubtractsWithBorrow : (Instr.sbcImmediate 0xFF#8).mnemonic = .sbc ∧ cpu.p.d = false := by decide

theorem witness_AdcAndSbcDecimalFormulas :
    busy.p.d = true ∧ (Instr.adcImmediate 0xFF#8).mnemonic = .adc ∧ (Instr.sbcImmediate 0xFF#8).mnemonic = .sbc := by decide

theorem witness_DecimalSumsOfValidDigits :
    let s := { busy with a := 0x99#8 }
    s.p.d = true ∧ (s.a.toNat / 16 ≤ 9 ∧ s.a.toNat % 16 ≤ 9) ∧ (s.am (Instr.adcImmediate 0x99#8).operand).value = 0x99#8 ∧
      (s.am (Instr.sbcImmediate 0x99#8).operand).value = 0x99#8 := by decide

theorem witness_CompareHelper :
    ∃ t, (Instr.cmpImmediate 0xFF#8).mnemonic ∈ [Mnemonic.cmp, .cpx, .cpy] ∧ exec (.cmpImmediate 0xFF#8) busy = .next t ∧
      t.p ≠ busy.p := ⟨_, by decide, rfl, by decide⟩

theorem witness_ComparesSetFlagsOnly :
    (Instr.cmpIndirectX 0xFF#8).mnemonic = .cmp ∧ (Instr.cpxZeroPage 0xFF#8).mnemonic = .cpx ∧
      (Instr.cpyImmediate 0x00#8).mnemonic = .cpy := ⟨rfl, rfl, rfl⟩

theorem witness_IncAndDecOnMemory :
    Ram busyMirrored ∧ (Instr.incZeroPage 0xFF#8).mnemonic = .inc ∧ (Instr.decAbsoluteX 0xFFFF#16).mnemonic = .dec :=
  ⟨ram_busyMirrored, rfl, rfl⟩

/-- Each clause of the statement on A, X, Y and SP: an instruction that changes the register. -/
theorem witness_RegistersChangeOnlyByTheirWriters :
    (∃ t, exec (.ldaImmediate 0x01#8) busy = .next t ∧ t.a ≠ busy.a) ∧ (∃ t, exec .aslAccumulator busy = .next t ∧ t.a ≠ busy.a) ∧
      (∃ t, exec .inx busy = .next t ∧ t.x ≠ busy.x) ∧ (∃ t, exec .iny busy = .next t ∧ t.y ≠ busy.y) ∧
      ∃ t, exec .pha busy = .next t ∧ t.sp ≠ busy.sp :=
  ⟨⟨_, rfl, by decide⟩, ⟨_, rfl, by decide⟩, ⟨_, rfl, by decide⟩, ⟨_, rfl, by decide⟩, _, rfl, by decide⟩

/-- Each clause of the statement on the flags. -/
theorem witness_FlagsChangeOnlyByTheirWriters :
    (∃ t, exec .clc busy = .next t ∧ t.p.c ≠ busy.p.c) ∧ (∃ t, exec (.ldaImmediate 0x00#8) busy = .next t ∧ t.p.z ≠ busy.p.z) ∧
      (∃ t, exec (.ldaImmediate 0x00#8) busy = .next t ∧ t.p.n ≠ busy.p.n) ∧ (∃ t, exec .brk busy = .next t ∧ t.p.i ≠ busy.p.i) ∧
      (∃ t, exec .cld busy = .next t ∧ t.p.d ≠ busy.p.d) ∧ ∃ t, exec (.bitZeroPage 0x00#8) { busy with p := Flags.ofByte 0x40#8 } = .next t ∧ t.p.v ≠ true :=
  ⟨⟨_, rfl, by decide⟩, ⟨_, rfl, by decide⟩, ⟨_, rfl, by decide⟩, ⟨_, rfl, by decide⟩, ⟨_, rfl, by decide⟩, _, rfl, by decide⟩

theorem witness_PcAdvancesUnlessTransferred :
    (∃ t, exec (.ldaAbsolute 0x0000#16) busy = .next t ∧ t.pc = 0x0001#16) ∧ ∃ t, exec (.bmi 0x80#8) busy = .next t ∧ t.pc = 0xFF80#16 :=
  ⟨⟨_, rfl, rfl⟩, _, rfl, rfl⟩

theorem witness_DecimalFlagIsReadOnlyByAdcSbcAndPushes :
    ∃ t, exec (.cmpImmediate 0x10#8) busy = .next t ∧ Mnemonic.cmp ∉ [Mnemonic.adc, .sbc, .php, .brk] ∧ t.p ≠ busy.p :=
  ⟨_, rfl, by decide, by decide⟩

theorem witness_OperandStoresTouchOneCell :
    (∃ t, Ram busy ∧ exec (.staAbsoluteX 0xFFFF#16) busy = .next t ∧ t.mem ≠ busy.mem) ∧
      (∃ t, Ram busyMirrored ∧ exec (.rorZeroPage 0xFF#8) busyMirrored = .next t ∧ t.mem ≠ busyMirrored.mem) ∧
      (Instr.rorZeroPage 0xFF#8).mode ≠ .accumulator ∧
      ∃ t, busyAttached.device = .attached ∧ exec (.staZeroPage 0xFF#8) busyAttached = .next t ∧
        t.calls = [.read 0x00FF#16, .write 0x00FF#16 0x80#8] :=
  ⟨⟨_, ram_busy, rfl, by decide⟩, ⟨_, ram_busyMirrored, rfl, by decide⟩, by decide, _, rfl, rfl, rfl⟩

theorem witness_PushesTouchOnlyTheirSlots :
    (∃ t, Ram busy ∧ exec .pha busy = .next t ∧ t.mem ≠ busy.mem) ∧
      (∃ t, Ram cpu ∧ exec (.jsr 0xFFFF#16) cpu = .next t ∧ t.mem ≠ cpu.mem) ∧
      ∃ t, Ram busyMirrored ∧ exec .brk busyMirrored = .next t ∧ t.mem ≠ busyMirrored.mem :=
  ⟨⟨_, ram_busy, rfl, by decide⟩, ⟨_, ram_cpu, rfl, by decide⟩, _, ram_busyMirrored, rfl, by decide⟩

theorem witness_OtherFormsStoreNothing :
    (∃ t, exec .aslAccumulator busy = .next t ∧ t.a ≠ busy.a) ∧ Instr.aslAccumulator.mode = .accumulator ∧
      Instr.aslAccumulator.mnemonic ∉ [.sta, .stx, .sty, .inc, .dec, .pha, .php, .jsr, .brk] ∧ busy.device ≠ .attached ∧
      ∃ t, busyAttached.device = .attached ∧ exec (.ldaZeroPage 0xFF#8) busyAttached = .next t ∧
        t.calls = [.read 0x00FF#16] :=
  ⟨⟨_, rfl, by decide⟩, rfl, by decide, by decide, _, rfl, rfl, rfl⟩

/-- 20_memory.md R51 with decisions D4 and D5: the opcode, the operand bytes, the read at the effective address, the write. -/
theorem witness_StepMemoryIsItsBusWrites :
    ∃ t, step busy = .next t ∧ t.mem ≠ busy.mem ∧ stepAccesses busy =
      [.read 0xFFFE#16, .read 0xFFFF#16, .read 0x0000#16, .read 0x1310#16, .write 0x1310#16 0x80#8] := ⟨_, rfl, by decide, by decide⟩

/-- An attached memory has seen the calls of an NMI and then of a reset (60_exceptions.md R235, 70_reset_and_hazards.md
R261); a RAM keeps none. -/
theorem witness_PortCallsOfEveryTransaction :
    busyAttached.device = .attached ∧ ((busyAttached.transact .triggerNmi).transact .reset).calls =
        [.write 0x0100#16 0xFF#8, .write 0x01FF#16 0xFE#8, .write 0x01FE#16 0xA9#8, .read 0xFFFA#16, .read 0xFFFB#16,
          .read 0xFFFC#16, .read 0xFFFD#16] ∧
      busy.device ≠ .attached ∧ (busy.transact .triggerNmi).calls = [] := ⟨rfl, rfl, by decide, rfl⟩

/-- The three shapes of the cycle statement: a branch (taken into another page), a read form that crosses, neither. -/
theorem witness_CyclesOfAnInstruction :
    ((Instr.bmi 0x80#8).mode = .relative ∧ branchTaken .bmi busy.p = true ∧ instrCycles (.bmi 0x80#8) busy = 4) ∧
      ((busy.am (Instr.ldaAbsoluteX 0x12F0#16).operand).crossed = true ∧ instrCycles (.ldaAbsoluteX 0x12F0#16) busy = 5) ∧
      instrCycles (.staAbsoluteX 0x12F0#16) busy = 5 := by decide

/-- Both ends of run_for at its smallest budget: one step spends it; a fault ends it. -/
theorem witness_RunForStopsAtItsBudget :
    (busy.runFor 1).ending = .budgetSpent ∧ (busy.runFor 1).accesses = stepAccesses busy ∧
      ((place [0x02#8] cpu).runFor 1).ending = .faulted (.opcodeNotInSet 0x02#8) := by decide

theorem witness_SelfJumpChangesNothing :
    (place [0x4C#8, 0x00#8, 0x06#8] cpu).jumpsToItself = true ∧ (place [0x70#8, 0xFE#8] { cpu with p := Flags.ofByte 0x40#8 }).jumpsToItself = true ∧
      (place [0x4C#8, 0x00#8, 0x06#8] cpu).device ≠ .attached := by decide

end Sys2Proof.Tests
end

section
/-! The status byte as it is pushed (10_state.md R28, 40_step_and_addressing.md R97): its bits, and where PHP, BRK, IRQ
and NMI put it. -/

namespace Sys2Proof

theorem bit_or (v w : Byte) (k : Nat) : bit (v ||| w) k = (bit v k || bit w k) := BitVec.getLsbD_or

theorem bit_flagBit (f : Bool) (mask : Byte) (k : Nat) : bit (flagBit f mask) k = (f && bit mask k) := by
  cases f
  · exact BitVec.getLsbD_zero
  · rfl

end Sys2Proof

namespace Sys2Proof.Machine

/-- A bit of the pushed status is an "or" over the six flags, Constant and B, each at the place of its own mask. -/
theorem Flags.bit_pushed (p : Flags) (b : Bool) (k : Nat) :
    bit (p.pushed b) k =
      (p.n && bit 0x80#8 k || p.v && bit 0x40#8 k || bit 0x20#8 k || p.d && bit 0x08#8 k || p.i && bit 0x04#8 k ||
        p.z && bit 0x02#8 k || p.c && bit 0x01#8 k || bit 0x20#8 k || b && bit 0x10#8 k) := by
  simp only [Flags.pushed, Flags.view, bit_or, bit_flagBit]

/-- An Implied instruction reads nothing after its opcode and runs its operation at the next byte (R84). -/
theorem exec_of_implied (i : Instr) (h : i.operand = .implied) (s : State) :
    exec i s = .next (opOf i.mnemonic amImplied { s with pc := s.pc + 1#16 }) := by
  have hpc : s.nextPc i = s.pc + 1#16 := by
    rw [State.nextPc, h]
    exact BitVec.add_zero _
  have hmode : s.afterMode .implied = s := s.afterReads_nil
  rw [exec_next, hpc, h, hmode]
  rfl

theorem exec_php (s : State) : exec .php s = .next (({ s with pc := s.pc + 1#16 } : State).pushStatus true) :=
  exec_of_implied .php rfl s

/-- BRK takes the interrupt with the padding byte skipped and B set (R221). -/
theorem exec_brk (s : State) :
    exec .brk s =
      .next (({ s with pc := s.pc + 1#16 } : State).interrupt (s.pc + 1#16 + 1#16) true Config.irqVector) :=
  exec_of_implied .brk rfl s

/-- The third push of the interrupt sequence writes the status as it was (R220). -/
theorem status_mem_interruptAccesses (s : State) (ret : Word) (b : Bool) (vec : Word) :
    .write (stackAddr (s.sp - 2#8)) (s.p.pushed b) ∈ interruptAccesses s ret b vec := by
  simp [interruptAccesses, pushAccess]

/-- The invariant does not speak of PC. -/
theorem State.inv_setPc (s : State) (h : s.Inv) (w : Word) : ({ s with pc := w } : State).Inv :=
  State.inv_congr s _ h rfl rfl rfl

theorem State.read_pushStatus_slot (s : State) (hd : s.device ≠ .attached) (h : s.Inv) (b : Bool) :
    (s.pushStatus b).read (stackAddr s.sp) = s.p.pushed b := by
  rw [State.pushStatus, State.read_pushByte_cell s hd h, if_pos rfl]

theorem State.read_interrupt_status (s : State) (hd : s.device ≠ .attached) (h : s.Inv) (ret : Word) (b : Bool)
    (vec : Word) : (s.interrupt ret b vec).read (stackAddr (s.sp - 2#8)) = s.p.pushed b := by
  rw [State.read_interrupt s hd h, if_pos rfl]

/-- An IRQ is taken when I is clear (60_exceptions.md R234). -/
theorem State.triggerIrq_of_clear (s : State) (h : s.p.i = false) :
    s.triggerIrq = s.interrupt s.pc false Config.irqVector := by simp [State.triggerIrq, h]

theorem State.accesses_triggerIrq_of_clear (s : State) (h : s.p.i = false) :
    s.accesses .triggerIrq = interruptAccesses s s.pc false Config.irqVector := by simp [State.accesses, h]

/-- Each bit of the pushed status, with the flag that stands there (R28). -/
theorem Flags.pushed_bits (p : Flags) (b : Bool) :
    bit (p.pushed b) 0 = p.c ∧ bit (p.pushed b) 1 = p.z ∧ bit (p.pushed b) 2 = p.i ∧ bit (p.pushed b) 3 = p.d ∧
      bit (p.pushed b) 4 = b ∧ bit (p.pushed b) 5 = true ∧ bit (p.pushed b) 6 = p.v ∧ bit (p.pushed b) 7 = p.n := by
  simp only [Flags.bit_pushed]
  simp [bit]

/-- The four pushers list the write of the status with their own B. -/
theorem pushers_list_the_status (s : State) :
    .write (stackAddr s.sp) (s.p.pushed true) ∈ instrAccesses .php s ∧
      .write (stackAddr (s.sp - 2#8)) (s.p.pushed true) ∈ instrAccesses .brk s ∧
      (s.p.i = false → .write (stackAddr (s.sp - 2#8)) (s.p.pushed false) ∈ s.accesses .triggerIrq) ∧
      .write (stackAddr (s.sp - 2#8)) (s.p.pushed false) ∈ s.accesses .triggerNmi := by
  refine ⟨?php, ?brk, fun hi => ?irq, ?nmi⟩
  case php => exact List.mem_append_right _ (List.mem_singleton_self _)
  case brk => exact List.mem_append_right _ (status_mem_interruptAccesses s _ true _)
  case irq =>
    rw [s.accesses_triggerIrq_of_clear hi]
    exact status_mem_interruptAccesses s _ false _
  case nmi => exact status_mem_interruptAccesses s _ false _

/-- In a RAM the four pushers leave the status with their own B in its slot. -/
theorem pushers_leave_the_status (s : State) (h : s.Inv) (hd : s.device ≠ .attached) :
    (∀ t : State, exec .php s = .next t → t.read (stackAddr s.sp) = s.p.pushed true) ∧
      (∀ t : State, exec .brk s = .next t → t.read (stackAddr (s.sp - 2#8)) = s.p.pushed true) ∧
      (s.p.i = false → s.triggerIrq.read (stackAddr (s.sp - 2#8)) = s.p.pushed false) ∧
      s.triggerNmi.read (stackAddr (s.sp - 2#8)) = s.p.pushed false := by
  have hnext : ({ s with pc := s.pc + 1#16 } : State).Inv := s.inv_setPc h _
  refine ⟨fun t ht => ?php, fun t ht => ?brk, fun hi => ?irq, ?nmi⟩
  case php =>
    obtain rfl := Host.Outcome.next.inj ((exec_php s).symm.trans ht)
    exact State.read_pushStatus_slot _ hd hnext true
  case brk =>
    obtain rfl := Host.Outcome.next.inj ((exec_brk s).symm.trans ht)
    exact State.read_interrupt_status _ hd hnext _ true _
  case irq =>
    rw [s.triggerIrq_of_clear hi]
    exact s.read_interrupt_status hd h _ false _
  case nmi => exact s.read_interrupt_status hd h _ false _

/-- Settles O23: bit by bit over the masks, then each pusher through the slot its status goes to. -/
theorem pushedStatusByte : Obligations.PushedStatusByte :=
  ⟨Flags.pushed_bits, fun s b => ⟨rfl, s.pushStatus_p b⟩, pushers_list_the_status, pushers_leave_the_status⟩

end Sys2Proof.Machine
end

section
/-! The mirrored RAM (20_memory.md R49): its sizes, the cells its addresses name, and what a write lets them read. -/

namespace Sys2Proof.Machine

theorem Device.mirrored_ne_attached (z : MirrorSize) : Device.mirrored z ≠ .attached := Device.noConfusion

theorem MirrorSize.bytes_mem_sizes (z : MirrorSize) : z.bytes ∈ [8, 16, 32, 64, 128, 1024] := by
  cases z <;> decide

/-- Each size that R49 lists is the size of some mirrored RAM. -/
theorem MirrorSize.exists_bytes_eq : ∀ n ∈ [8, 16, 32, 64, 128, 1024], ∃ z : MirrorSize, z.bytes = n := by
  simp only [List.forall_mem_cons]
  exact ⟨⟨.b8, rfl⟩, ⟨.b16, rfl⟩, ⟨.b32, rfl⟩, ⟨.b64, rfl⟩, ⟨.b128, rfl⟩, ⟨.b1024, rfl⟩, List.forall_mem_nil _⟩

/-- In a mirrored RAM a written byte is read back through exactly the addresses with the same remainder. -/
theorem State.read_write_mirrored (s : State) (z : MirrorSize) (a b : Word) (v : Byte) (h : s.Inv)
    (hz : s.device = .mirrored z) :
    (s.write a v).read b = if a.toNat % z.bytes = b.toNat % z.bytes then v else s.read b := by
  have hram : s.device ≠ .attached := hz ▸ Device.mirrored_ne_attached z
  have hcell (c : Word) : s.device.cell c = c.toNat % z.bytes := by
    rw [s.device.cell_eq_mod hram, hz]
    rfl
  rw [s.read_write_cell hram h, hcell, hcell]
  exact if_congr eq_comm rfl rfl

/-- Settles O14: the mask and the remainder name the same cell, and a write is read back by cells. -/
theorem mirroredRamNamesCellsByLowBits : Obligations.MirroredRamNamesCellsByLowBits :=
  ⟨fun z => ⟨z.bytes_mem_sizes, fun a => ⟨rfl, Device.cell_eq_mod _ (Device.mirrored_ne_attached z) a⟩⟩,
    MirrorSize.exists_bytes_eq, fun s z a b v => s.read_write_mirrored z a b v⟩

end Sys2Proof.Machine
end

section
/-! What the addressing modes give for the instruction at PC (40_step_and_addressing.md R82 to R94): its operand is made
of the bytes read after the opcode, and sums in page zero are sums modulo 256. -/

namespace Sys2Proof

/-- An operand is known by its mode and its bytes. -/
theorem Operand.eq_of_mode_bytes {o o' : Operand} (hm : o.mode = o'.mode) (hb : o.bytes = o'.bytes) : o = o' := by
  have ho : some (o, ([] : List Byte)) = some (o', []) := by
    rw [← Operand.ofBytes_bytes o [], ← Operand.ofBytes_bytes o' [], hm, hb]
  exact congrArg Prod.fst (Option.some.inj ho)

/-- An instruction has one of the modes R63 lists for its mnemonic. -/
theorem Instr.mode_mem_modes (i : Instr) : i.mode ∈ i.mnemonic.modes := by
  have hwf : i.written.hasMode = true := (Bool.and_eq_true_iff.mp (Laws.Shape.all i).1).1
  exact List.contains_iff_mem.mp hwf

theorem Mnemonic.of_zeroPageY_mem_modes (m : Mnemonic) (h : .zeroPageY ∈ m.modes) : m ∈ [.ldx, .stx] := by
  revert h
  cases m <;> decide

theorem Mnemonic.of_indirect_mem_modes (m : Mnemonic) (h : .indirect ∈ m.modes) : m = .jmp := by
  revert h
  cases m <;> decide

theorem Mode.adv_eq_zero_iff (m : Mode) : m.adv = 0 ↔ m = .implied ∨ m = .accumulator := by
  cases m <;> decide

/-- The one-byte instructions: the Implied ones and the four shifts of A. -/
theorem Instr.length_eq_one_iff (i : Instr) :
    i.length = 1 ↔ i.mode = .implied ∨ i.mode = .accumulator ∧ i.mnemonic ∈ [.asl, .lsr, .rol, .ror] := by
  have hshift (h : i.mode = .accumulator) : i.mnemonic ∈ [.asl, .lsr, .rol, .ror] := by
    simpa using Machine.mnemonic_of_accumulator i h
  rw [Instr.length, Nat.add_eq_left, Mode.adv_eq_zero_iff, and_iff_left_of_imp hshift]

/-- A byte that is a number modulo 256, as an address in page zero. -/
theorem zext_eq_ofNat {b : Byte} {n : Nat} (h : b.toNat = n % 256) : zext b = BitVec.ofNat 16 (n % 256) := by
  rw [← h, BitVec.ofNat_toNat]
  rfl

/-- An index added in page zero (R90, R91). -/
theorem zext_add (b index : Byte) : zext (b + index) = BitVec.ofNat 16 ((b.toNat + index.toNat) % 256) :=
  zext_eq_ofNat (BitVec.toNat_add b index)

/-- An index added to a word (R87, R88, R94). -/
theorem add_zext_eq_ofNat (w : Word) (index : Byte) : w + zext index = BitVec.ofNat 16 (w.toNat + index.toNat) := by
  rw [BitVec.add_def, zext_toNat]

namespace Machine

/-- The high byte of a pointer in page zero lies there too (R93, R94). -/
theorem pointerHigh_zext {b : Byte} {n : Nat} (h : b.toNat = n % 256) :
    pointerHigh (zext b) = BitVec.ofNat 16 ((n + 1) % 256) := by
  apply BitVec.eq_of_toNat_eq
  rw [pointerHigh, word_toNat, hi_toNat, BitVec.toNat_add, lo_toNat, zext_toNat, h]
  simp only [BitVec.toNat_ofNat]
  omega

@[simp] theorem pointerHigh_word (h l : Byte) : pointerHigh (word h l) = word h (l + 1#8) := by
  rw [pointerHigh, hi_word, lo_word]

/-- A crossing is a change of the page number (R82). -/
theorem pageCrossed_eq_decide (ea base : Word) :
    pageCrossed ea base = decide (ea.toNat / 256 ≠ base.toNat / 256) := by
  rw [pageCrossed, ← hi_toNat, ← hi_toNat, Bool.eq_iff_iff, bne_iff_ne, decide_eq_true_iff, BitVec.toNat_ne]

/-- The operand of the instruction at PC is the one of its mode with the bytes read after the opcode. -/
theorem operand_eq_of_decodeAt {s : State} {i : Instr} (h : s.decodeAt = .ok i) (o : Operand) (hm : i.mode = o.mode)
    (hb : o.bytes = (s.afterReads [s.pc]).readBytes (s.pc + 1#16) o.mode.adv) : i.operand = o := by
  have hbytes : i.operand.bytes = (s.afterReads [s.pc]).readBytes (s.pc + 1#16) o.mode.adv :=
    hm ▸ operand_of_decodeAt s i h
  exact Operand.eq_of_mode_bytes hm (hbytes.trans hb.symm)

/-- Two operand bytes make the word with the second one high (30_encoding.md R62). -/
theorem bytes_of_operand_word (s : State) :
    let w := word ((s.afterReads [s.pc, s.pc + 1#16]).read (s.pc + 1#16 + 1#16))
      ((s.afterReads [s.pc]).read (s.pc + 1#16))
    [lo w, hi w] = (s.afterReads [s.pc]).readBytes (s.pc + 1#16) 2 := by
  simp [State.readBytes]

/-- Settles O16: each mode's operand is the bytes after the opcode, and the mode runs on it by computation. -/
theorem unindexedModesGiveTheirOperand : Obligations.UnindexedModesGiveTheirOperand := by
  refine ⟨fun s i h => ⟨fun hm => ?implied, fun hm => ?immediate, fun hm => ?absolute, fun hm => ?zeroPage⟩,
    Instr.length_eq_one_iff⟩
  case implied =>
    rw [operand_eq_of_decodeAt h .implied hm rfl]
    exact ⟨rfl, rfl⟩
  case immediate =>
    rw [operand_eq_of_decodeAt h (.immediate _) hm rfl]
    exact ⟨rfl, rfl⟩
  case absolute =>
    rw [operand_eq_of_decodeAt h (.absolute _) hm (bytes_of_operand_word s)]
    exact ⟨rfl, rfl⟩
  case zeroPage =>
    rw [operand_eq_of_decodeAt h (.zeroPage _) hm rfl]
    exact ⟨rfl, rfl⟩

/-- ZeroPageX and ZeroPageY over numbers (R90, R91). -/
theorem amZeroPageIndexed_eq (s : State) (b index : Byte) :
    let ea := BitVec.ofNat 16 ((b.toNat + index.toNat) % 256)
    amZeroPageIndexed s b index = ⟨1#16, s.read ea, false, ea, false⟩ := by
  rw [amZeroPageIndexed, zext_add]
  rfl

/-- Settles O17: the index is added as a byte, so the sum stays in page zero. -/
theorem zeroPageIndexedModesWrapInPageZero : Obligations.ZeroPageIndexedModesWrapInPageZero := by
  refine fun s i h => ⟨fun hm => ?zeroPageX, fun hm => ?zeroPageY⟩
  case zeroPageX =>
    rw [operand_eq_of_decodeAt h (.zeroPageX _) hm rfl]
    exact ⟨amZeroPageIndexed_eq _ _ _, rfl⟩
  case zeroPageY =>
    rw [operand_eq_of_decodeAt h (.zeroPageY _) hm rfl]
    exact ⟨amZeroPageIndexed_eq _ _ _, i.mnemonic.of_zeroPageY_mem_modes (hm ▸ i.mode_mem_modes), rfl⟩

/-- Indirect, the pointer written by its bytes (R92). -/
theorem amIndirect_word (s : State) (h l : Byte) :
    let ea := word ((s.afterReads [word h l]).read (word h (l + 1#8))) (s.read (word h l))
    amIndirect s (word h l) =
      ⟨2#16, (s.afterReads [word h l, word h (l + 1#8)]).read ea, false, ea, false⟩ := by
  rw [amIndirect, afterPointer, readPointer, pointerHigh_word]
  rfl

/-- Settles O18: the pointer's second byte is read in the page of the first. -/
theorem indirectModeKeepsThePointerPage : Obligations.IndirectModeKeepsThePointerPage := by
  intro s i h hm
  have hnext : s.pc + 2#16 = s.pc + 1#16 + 1#16 := (BitVec.add_assoc s.pc 1#16 1#16).symm
  rw [hnext, operand_eq_of_decodeAt h (.indirect _) hm (bytes_of_operand_word s)]
  exact ⟨i.mnemonic.of_indirect_mem_modes (hm ▸ i.mode_mem_modes), amIndirect_word _ _ _, rfl⟩

/-- The word at a pointer in page zero: both its bytes lie there (R93, R94). -/
theorem readPointer_zext (s : State) {b : Byte} {n : Nat} (h : b.toNat = n % 256) :
    readPointer s (zext b) =
      word ((s.afterReads [BitVec.ofNat 16 (n % 256)]).read (BitVec.ofNat 16 ((n + 1) % 256)))
        (s.read (BitVec.ofNat 16 (n % 256))) := by
  rw [readPointer, pointerHigh_zext h, zext_eq_ofNat h]
  rfl

theorem afterPointer_zext (s : State) {b : Byte} {n : Nat} (h : b.toNat = n % 256) :
    afterPointer s (zext b) = s.afterReads [BitVec.ofNat 16 (n % 256), BitVec.ofNat 16 ((n + 1) % 256)] := by
  rw [afterPointer, pointerHigh_zext h, zext_eq_ofNat h]

/-- Settles O19: both modes take their pointer from page zero; only IndirectY adds to the word found there. -/
theorem zeroPagePointerModes : Obligations.ZeroPagePointerModes := by
  refine fun s i h => ⟨fun hm => ?indirectX, fun hm => ?indirectY⟩
  case indirectX =>
    rw [operand_eq_of_decodeAt h (.indirectX _) hm rfl]
    have hptr := BitVec.toNat_add ((s.afterReads [s.pc]).read (s.pc + 1#16)) (s.fetched i).x
    refine ⟨?_, rfl⟩
    rw [State.am, addressing, amIndirectX, readPointer_zext _ hptr, afterPointer_zext _ hptr]
    rfl
  case indirectY =>
    rw [operand_eq_of_decodeAt h (.indirectY _) hm rfl]
    have hptr := (Nat.mod_eq_of_lt ((s.afterReads [s.pc]).read (s.pc + 1#16)).isLt).symm
    refine ⟨?_, rfl⟩
    rw [State.am, addressing, amIndirectY, pageCrossed_eq_decide, add_zext_eq_ofNat, readPointer_zext _ hptr,
      afterPointer_zext _ hptr]
    rfl

end Machine

end Sys2Proof
end

section
/-! The stack helpers (40_step_and_addressing.md R95 to R99): a push and a pull over numbers, and that what was pushed
last is pulled first. -/

namespace Sys2Proof

theorem hi_eq_ofNat (w : Word) : hi w = BitVec.ofNat 8 (w.toNat / 256) := by
  rw [← hi_toNat, BitVec.ofNat_toNat, BitVec.setWidth_eq]

theorem lo_eq_ofNat (w : Word) : lo w = BitVec.ofNat 8 w.toNat := by
  apply BitVec.eq_of_toNat_eq
  rw [lo_toNat, BitVec.toNat_ofNat]

namespace Machine

/-- Two pushes are the push of the word with the first byte high (R96). -/
theorem State.pushWord_word (s : State) (v w : Byte) : s.pushWord (word v w) = (s.pushByte v).pushByte w := by
  rw [State.pushWord, hi_word, lo_word]

theorem State.popped_sp_pushByte (s : State) (v : Byte) : (s.pushByte v).popped.sp = s.sp :=
  BitVec.sub_add_cancel s.sp 1#8

theorem State.popped_popped_sp_pushWord (s : State) (w : Word) : (s.pushWord w).popped.popped.sp = s.sp := by
  simp only [State.popped_sp, State.pushWord_sp, BitVec.sub_add_cancel]

/-- In a RAM a push writes one cell and moves SP, and records nothing. -/
theorem State.pushByte_of_ram (s : State) (hd : s.device ≠ .attached) (v : Byte) :
    s.pushByte v = { s with mem := s.device.writeByte s.mem (stackAddr s.sp) v, sp := s.sp - 1#8 } := by
  rw [State.pushByte, State.write, Device.record_of_ram _ hd]

/-- In a RAM a pull moves SP and nothing else. -/
theorem State.popped_of_ram (s : State) (hd : s.device ≠ .attached) : s.popped = { s with sp := s.sp + 1#8 } := by
  rw [State.popped, State.afterReads_of_ram s hd]

/-- A pull after a push gives the pushed byte. -/
theorem State.pulledByte_pushByte (s : State) (hd : s.device ≠ .attached) (h : s.Inv) (v : Byte) :
    (s.pushByte v).pulledByte = v := by
  rw [State.pulledByte, State.pushByte_sp, BitVec.sub_add_cancel, State.read_pushByte_cell s hd h, if_pos rfl]

/-- The second pull reads two slots up, after the first one's read. -/
theorem State.pulledByte_popped (s : State) :
    s.popped.pulledByte = (s.afterReads [stackAddr (s.sp + 1#8)]).read (stackAddr (s.sp + 2#8)) := by
  have hsp : s.sp + 1#8 + 1#8 = s.sp + 2#8 := BitVec.add_assoc s.sp 1#8 1#8
  rw [State.pulledByte, State.popped_sp, hsp]
  rfl

/-- A pushed word takes two slots (R96). -/
theorem State.pushWord_sp_eq_sub_two (s : State) (w : Word) : (s.pushWord w).sp = s.sp - 2#8 := by
  rw [State.pushWord_sp]
  bv_omega

/-- The second pull after a pushed word gives its high byte, the first push. -/
theorem State.pulledByte_popped_pushWord (s : State) (hd : s.device ≠ .attached) (h : s.Inv) (w : Word) :
    (s.pushWord w).popped.pulledByte = hi w := by
  rw [State.pulledByte_popped, State.afterReads_of_ram (s.pushWord w) hd, s.pushWord_sp_eq_sub_two,
    BitVec.sub_add_cancel, State.read_pushWord_high s hd h]

/-- Pulling a pushed word gives it back (R99). -/
theorem State.pulledWord_pushWord (s : State) (hd : s.device ≠ .attached) (h : s.Inv) (w : Word) :
    (s.pushWord w).pulledWord = w := by
  have hlow : (s.pushWord w).pulledByte = lo w := (s.pushByte (hi w)).pulledByte_pushByte hd (s.pushByte_inv h _) (lo w)
  rw [State.pulledWord, s.pulledByte_popped_pushWord hd h, hlow, word_hi_lo]

/-- Settles O21: the slot is written before SP drops and read after it rises, so the last byte in is the first out. -/
theorem pushAndPullOneByte : Obligations.PushAndPullOneByte := by
  intro s v w
  have hdown : BitVec.ofNat 8 (s.sp.toNat + 255) = s.sp - 1#8 := by
    rw [Nat.add_comm]
    exact (BitVec.sub_def s.sp 1#8).symm
  have hup : BitVec.ofNat 8 (s.sp.toNat + 1) = s.sp + 1#8 := (BitVec.add_def s.sp 1#8).symm
  rw [hdown, hup, ← s.pushWord_word v w]
  refine ⟨rfl, rfl, rfl, s.popped_sp_pushByte v, s.popped_popped_sp_pushWord _, fun h hd => ?ram⟩
  case ram =>
    have hread := s.read_pushByte_cell hd h v
    have hlast : ((s.pushByte v).pushByte w).pulledByte = w :=
      (s.pushByte v).pulledByte_pushByte hd (s.pushByte_inv h v) w
    have hfirst : (s.pushWord (word v w)).popped.pulledByte = v := by
      rw [s.pulledByte_popped_pushWord hd h, hi_word]
    exact ⟨(hread _).trans (if_pos rfl), fun b hb => (hread b).trans (if_neg hb), ⟨_, s.pushByte_of_ram hd v⟩,
      s.popped_of_ram hd, s.pulledByte_pushByte hd h v, s.pushWord_word v w ▸ hlast, hfirst⟩

/-- Settles O22: a word is two bytes, the high one pushed first and pulled last. -/
theorem pushAndPullAWord : Obligations.PushAndPullAWord := by
  intro s w
  rw [← hi_eq_ofNat, ← lo_eq_ofNat]
  have hpull : s.pulledWord =
      word ((s.afterReads [stackAddr (s.sp + 1#8)]).read (stackAddr (s.sp + 2#8)))
        (s.read (stackAddr (s.sp + 1#8))) := by
    rw [State.pulledWord, State.pulledByte_popped, State.pulledByte]
  exact ⟨rfl, s.pushWord_sp_eq_sub_two w, hpull, fun h hd =>
    ⟨s.read_pushWord_high hd h w, s.read_pushWord_low hd h w, s.pulledWord_pushWord hd h w⟩⟩

end Machine

end Sys2Proof
end

section
/-! ADC in binary mode (45_arithmetic_compare.md R160, R161): what every form of ADC answers, and the overflow formula
read as a statement about signed numbers. -/

namespace Sys2Proof.Machine

/-- The mask 0x80 picks the sign bit. -/
theorem and_signMask_beq_zero (x : Byte) : ((x &&& 0x80#8) == 0#8) = !x.msb := by
  have hmask : x &&& 0x80#8 = if x.msb then 0x80#8 else 0#8 := BitVec.and_twoPow x 7
  rw [hmask]
  cases x.msb
  · rfl
  · rfl

/-- R161's formula in signs: the operands have one sign and the result has the other. -/
theorem signedOverflow_eq_msb (a v r : Byte) : signedOverflow a v r = (a.msb == v.msb && a.msb != r.msb) := by
  simp only [signedOverflow, bne, and_signMask_beq_zero, BitVec.msb_xor]
  cases a.msb
  · cases v.msb <;> simp
  · cases v.msb <;> simp

/-- The formula is the overflow of the signed sum, carry included. -/
theorem signedOverflow_add_iff (a v : Byte) (c : Bool) :
    signedOverflow a v (BitVec.ofNat 8 (a.toNat + v.toNat + c.toNat)) = true ↔
      a.toInt + v.toInt + c.toNat < -128 ∨ a.toInt + v.toInt + c.toNat > 127 := by
  have ha := a.isLt
  have hv := v.isLt
  have hc := c.toNat_le
  simp only [signedOverflow_eq_msb, BitVec.msb_eq_decide, BitVec.toInt_eq_toNat_cond, BitVec.toNat_ofNat,
    Bool.and_eq_true, beq_iff_eq, bne_iff_ne, ne_eq, decide_eq_decide]
  omega

theorem adcSum_of_binary (p : Flags) (h : p.d = false) (a v : Byte) : adcSum p a v = adcBinary a v p.c :=
  if_neg (Bool.eq_false_iff.mp h)

/-- What every form of ADC answers (R160): A and the flags take the sum, after the reads of the mode. -/
theorem exec_of_adc (i : Instr) (h : i.mnemonic = .adc) (s : State) :
    let sum := adcSum s.p s.a (s.am i.operand).value
    exec i s = .next { s.afterMode i.operand with
      a := sum.result, p := s.p.ofSum sum, pc := s.pc + BitVec.ofNat 16 i.length } := by
  rw [exec_next, h, nextPc_eq]
  rfl

/-- Settles O37: with D clear the sum is the binary one, and its V is the overflow of the signed sum. -/
theorem adcBinaryAddsWithCarry : Obligations.AdcBinaryAddsWithCarry := by
  refine fun i s hadc hd => ⟨?answer, signedOverflow_add_iff s.a (s.am i.operand).value s.p.c⟩
  case answer =>
    rw [exec_of_adc i hadc, adcSum_of_binary s.p hd]
    rfl

end Sys2Proof.Machine
end

section
/-! The compares (45_arithmetic_compare.md R166 to R169): the helper's 16-bit difference is, in its low byte, the
difference of the two bytes, and CMP, CPX and CPY write nothing but the flags. -/

namespace Sys2Proof.Machine

theorem ofNat_and_lowMask (n : Nat) : BitVec.ofNat 8 (n &&& 0xFF) = BitVec.ofNat 8 n := by
  apply BitVec.eq_of_toNat_eq
  rw [BitVec.toNat_ofNat, BitVec.toNat_ofNat, Nat.and_two_pow_sub_one_eq_mod n 8, Nat.mod_mod]

/-- The low byte of the 16-bit difference is the difference of the bytes. -/
theorem ofNat_wordDifference (r v : Byte) : BitVec.ofNat 8 ((r.toNat + 65536 - v.toNat) % 65536) = r - v := by
  apply BitVec.eq_of_toNat_eq
  rw [BitVec.toNat_ofNat, BitVec.toNat_sub]
  omega

/-- The compare helper over bytes (R169). -/
theorem Flags.compare_eq_sub (p : Flags) (r v : Byte) :
    p.compare r v = { p with c := decide (r.toNat ≥ v.toNat), z := r - v == 0#8, n := bit (r - v) 7 } := by
  rw [Flags.compare, ofNat_and_lowMask, ofNat_wordDifference]
  rfl

theorem Flags.compare_z_iff (p : Flags) (r v : Byte) : (p.compare r v).z = true ↔ r = v := by
  rw [Flags.compare_eq_sub, beq_iff_eq]
  exact sub_eq_zero

/-- A compare answers a state in which, past the reads of its mode, the flags and PC alone are written (R166 to
R168). -/
theorem exec_of_compare (i : Instr) (h : i.mnemonic ∈ [.cmp, .cpx, .cpy]) (s : State) :
    ∃ q : Flags, exec i s = .next { s.afterMode i.operand with p := q, pc := s.nextPc i } := by
  simp only [List.mem_cons, List.not_mem_nil, or_false] at h
  rw [exec_next]
  obtain hcmp | hcpx | hcpy := h
  · rw [hcmp]
    exact ⟨s.p.compare s.a (s.am i.operand).value, rfl⟩
  · rw [hcpx]
    exact ⟨s.p.compare s.x (s.am i.operand).value, rfl⟩
  · rw [hcpy]
    exact ⟨s.p.compare s.y (s.am i.operand).value, rfl⟩

/-- Settles O41: the helper over bytes, which reads neither C nor D, then what each compare answers. -/
theorem compareHelper : Obligations.CompareHelper := by
  refine ⟨fun p r v => ⟨?flags, p.compare_z_iff r v, fun c d => rfl⟩, fun i s t hm ht => ?frame⟩
  case flags =>
    rw [ofNat_wordDifference]
    exact p.compare_eq_sub r v
  case frame =>
    obtain ⟨q, hq⟩ := exec_of_compare i hm s
    obtain rfl := Host.Outcome.next.inj (hq.symm.trans ht)
    rfl

end Sys2Proof.Machine
end

section
/-! Taking BRK, IRQ or NMI (49_brk_rti.md R220): the three pushes, the vector read after them, and where the pushed bytes
lie in a RAM. -/

namespace Sys2Proof.Machine

/-- The state after the three pushes of the sequence, byte by byte (R96, R97, R220). -/
theorem State.pushStatus_pushWord (s : State) (ret : Word) (b : Bool) :
    (s.pushWord ret).pushStatus b =
      ((s.pushByte (BitVec.ofNat 8 (ret.toNat / 256))).pushByte (BitVec.ofNat 8 ret.toNat)).pushByte (s.p.pushed b) := by
  rw [← hi_eq_ofNat, ← lo_eq_ofNat]
  rfl

/-- The frame of an interrupt takes three slots. -/
theorem State.interrupt_sp_eq_sub_three (s : State) (ret : Word) (b : Bool) (vec : Word) :
    (s.interrupt ret b vec).sp = s.sp - 3#8 := by
  rw [State.interrupt_sp]
  bv_omega

/-- In a RAM the vector is read from the memory that the pushes leave, which later reads find too. -/
theorem State.interrupt_pc_of_ram (s : State) (hd : s.device ≠ .attached) (ret : Word) (b : Bool) (vec : Word) :
    (s.interrupt ret b vec).pc =
      word ((s.interrupt ret b vec).read (vec + 1#16)) ((s.interrupt ret b vec).read vec) := by
  have hread (l : List Word) (a : Word) :
      (((s.pushWord ret).pushStatus b).afterReads l).read a = (s.interrupt ret b vec).read a := by
    rw [State.read_of_ram (((s.pushWord ret).pushStatus b).afterReads l) hd,
      State.read_of_ram (s.interrupt ret b vec) hd]
    rfl
  rw [← hread [vec] (vec + 1#16), ← hread [] vec, State.afterReads_nil]
  rfl

/-- In a RAM an interrupt writes memory, moves SP, sets I and loads PC, and records nothing. -/
theorem State.interrupt_of_ram (s : State) (hd : s.device ≠ .attached) (ret : Word) (b : Bool) (vec : Word) :
    s.interrupt ret b vec = { s with
      mem := (s.interrupt ret b vec).mem
      sp := s.sp - 3#8
      p := { s.p with i := true }
      pc := word ((s.interrupt ret b vec).read (vec + 1#16)) ((s.interrupt ret b vec).read vec) } := by
  have hcalls : (s.interrupt ret b vec).calls = s.calls := by
    simp [Device.record_of_ram _ hd]
  rw [← s.interrupt_sp_eq_sub_three ret b vec, ← s.interrupt_pc_of_ram hd, ← hcalls]
  rfl

/-- The high byte of the return address lies where SP was. -/
theorem State.read_interrupt_high (s : State) (hd : s.device ≠ .attached) (h : s.Inv) (ret : Word) (b : Bool)
    (vec : Word) : (s.interrupt ret b vec).read (stackAddr s.sp) = hi ret := by
  have hne : s.device.cell (stackAddr s.sp) ≠ s.device.cell (stackAddr (s.sp - 2#8)) := by
    simpa using stackAddr_cell_ne s.device hd s.sp 0#8 2#8 (by decide) (by decide) (by decide)
  rw [s.read_interrupt hd h, if_neg hne, s.read_pushWord_high hd h]

/-- The low byte of the return address lies one slot below. -/
theorem State.read_interrupt_low (s : State) (hd : s.device ≠ .attached) (h : s.Inv) (ret : Word) (b : Bool)
    (vec : Word) : (s.interrupt ret b vec).read (stackAddr (s.sp - 1#8)) = lo ret := by
  have hne := stackAddr_cell_ne s.device hd s.sp 1#8 2#8 (by decide) (by decide) (by decide)
  rw [s.read_interrupt hd h, if_neg hne, s.read_pushWord_low hd h]

/-- A cell that is none of the three slots of the frame keeps its byte. -/
theorem State.read_interrupt_other (s : State) (hd : s.device ≠ .attached) (h : s.Inv) (ret : Word) (b : Bool)
    (vec a : Word) (ha : ∀ k ∈ [0#8, 1#8, 2#8], s.device.cell a ≠ s.device.cell (stackAddr (s.sp - k))) :
    (s.interrupt ret b vec).read a = s.read a := by
  simp only [List.forall_mem_cons, BitVec.sub_zero] at ha
  obtain ⟨hhigh, hlow, hstatus, -⟩ := ha
  rw [s.read_interrupt hd h, if_neg hstatus, s.read_pushWord_other hd h ret a hhigh hlow]

/-- Settles O25: the callers give the sequence its return address, B and vector; the sequence is the three pushes and
the reads of the vector, and in a RAM each slot of the frame keeps its own byte. -/
theorem interruptSequence : Obligations.InterruptSequence := by
  refine ⟨fun s => ?brk, State.triggerIrq_of_clear, fun s => rfl, fun s ret b vec => ?sequence⟩
  case brk =>
    have hret : s.pc + 1#16 + 1#16 = s.pc + 2#16 := BitVec.add_assoc s.pc 1#16 1#16
    rw [exec_brk, hret]
    rfl
  case sequence =>
    intro t status u
    have hu : (s.pushWord ret).pushStatus b = u := s.pushStatus_pushWord ret b
    refine ⟨?whole, s.interrupt_sp_eq_sub_three ret b vec, rfl, rfl, rfl, fun h hd => ?ram⟩
    case whole =>
      rw [← hu]
      rfl
    case ram =>
      rw [← hi_eq_ofNat, ← lo_eq_ofNat]
      exact ⟨s.read_interrupt_high hd h ret b vec, s.read_interrupt_low hd h ret b vec,
        s.read_interrupt_status hd h ret b vec, ⟨_, s.interrupt_of_ram hd ret b vec⟩,
        fun a => s.read_interrupt_other hd h ret b vec a⟩

end Sys2Proof.Machine
end

section
/-! The one fault (60_exceptions.md R230, R231): a mapped opcode has an operand to read and an instruction to assemble,
so a step answers a next state unless the opcode at PC is unmapped. -/

namespace Sys2Proof

/-- As many bytes as a mode takes are an operand of that mode, with none left over (30_encoding.md R61). -/
theorem Operand.exists_ofBytes_of_length (m : Mode) (bs : List Byte) (h : bs.length = m.adv) :
    ∃ o, Operand.ofBytes m bs = some (o, []) := by
  cases m
  case accumulator | implied =>
    obtain rfl := List.eq_nil_of_length_eq_zero h
    exact ⟨_, rfl⟩
  case immediate | zeroPage | zeroPageX | zeroPageY | indirectX | indirectY | relative =>
    obtain ⟨b, rfl⟩ := List.length_eq_one_iff.mp h
    exact ⟨_, rfl⟩
  case absolute | absoluteX | absoluteY | indirect =>
    obtain ⟨low, high, rfl⟩ := List.length_eq_two.mp h
    exact ⟨_, rfl⟩

/-- A mnemonic assembles with the operands of its listed modes and no others (30_encoding.md R63). -/
theorem isSome_assemble (m : Mnemonic) (o : Operand) : (assemble m o).isSome = m.modes.contains o.mode := by
  cases m <;> cases o <;> rfl

/-- Every row of the opcode map has a mode that its mnemonic lists, read off the map by evaluation. -/
theorem rowOf_mode_mem_modes : ∀ op : BitVec 8, ∀ r ∈ rowOf op, r.mode ∈ r.mnemonic.modes := by decide +kernel

/-- A mapped opcode with its operand bytes is an instruction. -/
theorem exists_decode_of_row (op : Byte) (r : Row) (rest : List Byte) (hr : rowOf op = some r)
    (hlen : rest.length = r.mode.adv) : ∃ i, decode (op :: rest) = .ok (i, []) := by
  obtain ⟨o, ho⟩ := Operand.exists_ofBytes_of_length r.mode rest hlen
  have hmode : o.mode = r.mode := (Operand.ofBytes_some _ _ _ _ ho).1
  have hsome : (assemble r.mnemonic o).isSome = true := by
    rw [isSome_assemble, hmode]
    exact List.contains_iff_mem.mpr (rowOf_mode_mem_modes op r hr)
  obtain ⟨i, hi⟩ := Option.isSome_iff_exists.mp hsome
  refine ⟨i, ?_⟩
  simp only [decode, hr, ho, hi]

namespace Machine

theorem State.exists_decodeAt_of_row (s : State) (r : Row) (h : rowOf (s.read s.pc) = some r) :
    ∃ i, s.decodeAt = .ok i := by
  obtain ⟨i, hi⟩ := exists_decode_of_row _ r _ h (length_readBytes (s.afterReads [s.pc]) (s.pc + 1#16) _)
  refine ⟨i, ?_⟩
  rw [State.decodeAt, fetchBytes_of_row s r h, hi]

theorem State.decodeAt_of_unmapped (s : State) (h : rowOf (s.read s.pc) = none) :
    s.decodeAt = .error (.opcodeNotInSet (s.read s.pc)) := by
  simp only [State.decodeAt, State.fetchBytes, opcodeLength, State.readBytes, decode, h]

theorem step_of_decodeAt_ok {s : State} {i : Instr} (h : s.decodeAt = .ok i) : step s = exec i (s.fetched i) := by
  rw [step, h]

theorem step_of_unmapped (s : State) (h : rowOf (s.read s.pc) = none) :
    step s = .fault (.opcodeNotInSet (s.read s.pc)) := by
  rw [step, s.decodeAt_of_unmapped h]

/-- All a step can do: a mapped opcode completes, any other is the fault that names it (R230, R231). -/
theorem step_next_or_unmapped (s : State) :
    (∃ t, step s = .next t) ∨
      step s = .fault (.opcodeNotInSet (s.read s.pc)) ∧ rowOf (s.read s.pc) = none := by
  cases hr : rowOf (s.read s.pc) with
  | none => exact .inr ⟨step_of_unmapped s hr, rfl⟩
  | some r =>
    obtain ⟨i, hi⟩ := s.exists_decodeAt_of_row r hr
    exact .inl ⟨_, (step_of_decodeAt_ok hi).trans (exec_next i _)⟩

/-- Settles O8: exec answers a next state, and so does a step unless the opcode at PC is unmapped. -/
theorem legalInstructionsAlwaysComplete : Obligations.LegalInstructionsAlwaysComplete := by
  refine ⟨fun i s => ⟨_, exec_next i s⟩, fun s f hf => ?fault, fun s r hr => ?refused⟩
  case fault =>
    obtain ⟨t, ht⟩ | ⟨hfault, hrow⟩ := step_next_or_unmapped s
    · cases ht.symm.trans hf
    · exact ⟨Host.Outcome.fault.inj (hf.symm.trans hfault), hrow⟩
  case refused =>
    obtain ⟨t, ht⟩ | ⟨hfault, -⟩ := step_next_or_unmapped s
    · cases ht.symm.trans hr
    · cases hfault.symm.trans hr

end Machine

end Sys2Proof
end

section
/-! The interrupt requests (60_exceptions.md R234, R235): I set drops an IRQ, and every request leaves I set. -/

namespace Sys2Proof.Machine

/-- An IRQ is dropped when I is set (R234). -/
theorem State.triggerIrq_of_set (s : State) (h : s.p.i = true) : s.triggerIrq = s := if_pos h

/-- Taken or dropped, an IRQ leaves I set. -/
theorem State.triggerIrq_i (s : State) : s.triggerIrq.p.i = true := by
  cases hi : s.p.i with
  | false => rw [s.triggerIrq_of_clear hi, State.interrupt_p]
  | true => rw [s.triggerIrq_of_set hi, hi]

@[simp] theorem State.triggerNmi_p (s : State) : s.triggerNmi.p = { s.p with i := true } :=
  s.interrupt_p s.pc false Config.nmiVector

/-- Settles O28: by I, which the request leaves set whether taken or dropped. -/
theorem irqIsMaskedByI : Obligations.IrqIsMaskedByI := by
  refine fun s => ⟨s.triggerIrq_of_set, fun hi => ⟨s.triggerIrq_of_clear hi, ?flags⟩,
    s.triggerIrq.triggerIrq_of_set s.triggerIrq_i⟩
  case flags => rw [s.triggerIrq_of_clear hi, State.interrupt_p]

/-- Settles O29: the request is the sequence itself, and the I it sets drops the IRQ. -/
theorem nmiIsUnconditional : Obligations.NmiIsUnconditional := by
  refine fun s => ⟨rfl, s.triggerNmi_p, s.interrupt_sp_eq_sub_three s.pc false Config.nmiVector, rfl, ?irq⟩
  case irq =>
    have hi : s.triggerNmi.p.i = true := by rw [State.triggerNmi_p]
    exact s.triggerNmi.triggerIrq_of_set hi

end Sys2Proof.Machine
end

section
/-! Reset (70_reset_and_hazards.md R260): what it gives is a function of the memory, the device and its calls. -/

namespace Sys2Proof.Machine

/-- Reset forgets the registers and flags: whatever they hold, the state after is the same (R260). -/
theorem State.resetNow_with_registers (s : State) (pc : Word) (sp a x y : Byte) (p : Flags) :
    State.resetNow { s with pc := pc, sp := sp, a := a, x := x, y := y, p := p } = s.resetNow := rfl

/-- Settles O30: the vector's address is evaluated, and states over one memory differ in registers and flags alone,
which reset forgets. -/
theorem resetSetsEveryRegister : Obligations.ResetSetsEveryRegister := by
  refine ⟨fun s => rfl, fun s t hmem hdevice hcalls => ?independent⟩
  case independent =>
    have ht : t = { s with pc := t.pc, sp := t.sp, a := t.a, x := t.x, y := t.y, p := t.p } := by
      rw [hmem, hdevice, hcalls]
    rw [ht]
    exact (s.resetNow_with_registers t.pc t.sp t.a t.x t.y t.p).symm

end Sys2Proof.Machine
end

section
/-! The encoding (30_encoding.md R60 to R65): decoding is read backwards through the opcode map, in which each pair of a
mnemonic and a mode stands once. -/

namespace Sys2Proof

/-- Each byte of R61's layout is decoded back: the row of the opcode, then the operand of its mode. -/
theorem decode_encode (i : Instr) (rest : List Byte) : decode (encode i ++ rest) = .ok (i, rest) := by
  obtain ⟨-, hassemble, -, cycles, penalty, hrow⟩ := Laws.Shape.all i
  have hoperand : Operand.ofBytes i.mode (i.operand.bytes ++ rest) = some (i.operand, rest) :=
    i.operand.ofBytes_bytes rest
  simp only [encode, List.cons_append, decode, hrow, hoperand, hassemble]

/-- Settles O1: the lemmas per instruction give the map's row and the assembled instruction. -/
theorem decodeOfEncodeIsTheInstruction : Obligations.DecodeOfEncodeIsTheInstruction := by
  intro i rest
  obtain ⟨hwf, -, hlength, -⟩ := Laws.Shape.all i
  exact ⟨hwf, decode_encode i rest, hlength⟩

/-- What a decoded instruction says of the bytes: the row of the first one names its mnemonic and mode, and its operand
bytes follow. -/
theorem row_of_decode (bs rest : List Byte) (i : Instr) (h : decode bs = .ok (i, rest)) :
    ∃ op r, bs = op :: (i.operand.bytes ++ rest) ∧ rowOf op = some r ∧ r.mnemonic = i.mnemonic ∧ r.mode = i.mode := by
  cases bs with
  | nil => cases h
  | cons op tail =>
    simp only [decode] at h
    split at h
    · cases h
    · next r hrow =>
      split at h
      · cases h
      · next o left ho =>
        split at h
        · cases h
        · next j hj =>
          cases h
          obtain ⟨hmode, htail⟩ := Operand.ofBytes_some _ _ _ _ ho
          obtain ⟨hmnemonic, hoperand⟩ := assemble_some _ _ _ hj
          refine ⟨op, r, ?_, hrow, hmnemonic.symm, ?_⟩
          · rw [hoperand, htail]
          · rw [Instr.mode, hoperand, hmode]

theorem rowsAt_subset_opcodeMap (n : Nat) : rowsAt n ⊆ opcodeMap := by
  intro r hr
  unfold rowsAt at hr
  split at hr
  case h_17 => cases hr
  all_goals simp [opcodeMap, hr]

theorem rowOf_mem_opcodeMap (op : Byte) (r : Row) (h : rowOf op = some r) : r ∈ opcodeMap :=
  rowsAt_subset_opcodeMap _ (List.mem_of_find?_eq_some h)

/-- The map has one row for a mnemonic and a mode (R63), read off it by evaluation. -/
theorem nodup_opcodeMap : (opcodeMap.map fun r => (r.mnemonic, r.mode)).Nodup := by decide +kernel

/-- The mnemonic and the mode of a row give its opcode. -/
theorem opcode_of_rowOf (op : Byte) (r : Row) (i : Instr) (hr : rowOf op = some r) (hmnemonic : r.mnemonic = i.mnemonic)
    (hmode : r.mode = i.mode) : op = i.opcode := by
  obtain ⟨-, -, -, cycles, penalty, hrow⟩ := Laws.Shape.all i
  have heq := List.inj_on_of_nodup_map nodup_opcodeMap (rowOf_mem_opcodeMap op r hr)
    (rowOf_mem_opcodeMap _ _ hrow) (Prod.ext hmnemonic hmode)
  rw [← rowOf_some op r hr, heq]

/-- Settles O2: the row of the first byte can only be the instruction's own. -/
theorem encodeOfDecodeIsTheBytes : Obligations.EncodeOfDecodeIsTheBytes := by
  intro bs rest i h
  obtain ⟨op, r, hbs, hrow, hmnemonic, hmode⟩ := row_of_decode bs rest i h
  rw [hbs, opcode_of_rowOf op r i hrow hmnemonic hmode]
  rfl

theorem Mode.adv_le_two (m : Mode) : m.adv ≤ 2 := by
  cases m <;> decide

/-- With operand bytes enough, a byte is refused as an opcode exactly when the map lacks it (R64): the bytes of a mapped
one begin with an encoding. -/
theorem decode_refuses_iff (op b1 b2 : Byte) : decode [op, b1, b2] = .error (.opcodeNotInSet op) ↔ rowOf op = none := by
  cases hr : rowOf op with
  | none => simp [decode, hr]
  | some r =>
    have hlength : ([b1, b2].take r.mode.adv).length = r.mode.adv := List.length_take_of_le r.mode.adv_le_two
    obtain ⟨i, hi⟩ := exists_decode_of_row op r _ hr hlength
    have hbytes : [op, b1, b2] = encode i ++ [b1, b2].drop r.mode.adv := by
      rw [← List.append_nil (encode i), ← encodeOfDecodeIsTheBytes _ _ i hi, List.cons_append, List.take_append_drop]
    simp [hbytes, decode_encode]

/-- The bytes the map has no row for. -/
def unmappedBytes : List Byte := ((List.range 256).map (BitVec.ofNat 8)).filter fun op => (rowOf op).isNone

theorem rowOf_eq_none_iff (op : Byte) : rowOf op = none ↔ op ∈ unmappedBytes := by
  have hrange : op ∈ (List.range 256).map (BitVec.ofNat 8) :=
    List.mem_map.mpr ⟨op.toNat, List.mem_range.mpr op.isLt, (BitVec.ofNat_toNat 8 op).trans (BitVec.setWidth_eq op)⟩
  rw [unmappedBytes, List.mem_filter, and_iff_right hrange, Option.isNone_iff_eq_none]

/-- Settles O3: by the map alone, which is evaluated at all 256 bytes. -/
theorem unmappedOpcodesAreTheListedBytes : Obligations.UnmappedOpcodesAreTheListedBytes := by
  have mem_of_eq (l : List Byte) (hl : unmappedBytes = l) (op b1 b2 : Byte) :
      decode [op, b1, b2] = .error (.opcodeNotInSet op) ↔ op ∈ l := by
    rw [decode_refuses_iff, rowOf_eq_none_iff, hl]
  exact ⟨mem_of_eq _ (by decide +kernel), by decide +kernel⟩

/-- Settles O4: each word is the encoding of the instruction named, and so decodes to it. -/
theorem sampleWordsDecode : Obligations.SampleWordsDecode :=
  ⟨decode_encode (.ldaImmediate 0x80#8) [], decode_encode (.staAbsoluteX 0x12F0#16) [], decode_encode .txs [],
    decode_encode .php [], decode_encode (.andAbsoluteY 0x10FF#16) [], decode_encode (.bitZeroPage 0x10#8) [],
    decode_encode (.rorZeroPageX 0x10#8) [], decode_encode (.adcImmediate 0x20#8) [],
    decode_encode (.sbcImmediate 0xF0#8) [], decode_encode (.cpxZeroPage 0x10#8) [],
    decode_encode (.decAbsoluteX 0x2000#16) [], decode_encode .iny [], decode_encode (.bcc 0x20#8) [],
    decode_encode (.jmpIndirect 0x00FF#16) [], decode_encode (.jsr 0x1234#16) [], decode_encode .rts [],
    decode_encode .sed [], decode_encode .nop [], decode_encode .brk [], decode_encode .rti []⟩

/-- Settles O5: an operand always has the bytes of its own mode, so that its mnemonic lists the mode is all there is to
check. -/
theorem assembledExactlyWhenWellFormed : Obligations.AssembledExactlyWhenWellFormed := by
  refine fun m o => ⟨?wellFormed, fun i => assemble_some m o i⟩
  case wellFormed =>
    have hlength : (Written.mk m o.mode o.bytes).hasLength = true := beq_iff_eq.mpr (Machine.length_operand_bytes o)
    rw [isSome_assemble, Written.wellFormed, hlength, Bool.and_true, Written.hasMode]

end Sys2Proof
end

section
/-! The memory every transaction leaves (20_memory.md R41 to R51): what its listed calls make of the memory before it,
from which the invariant follows, whatever the transaction. -/

namespace Sys2Proof.Machine

@[simp] theorem Access.apply_device (s : State) (x : Access) : (x.apply s).device = s.device := by
  cases x <;> rfl

@[simp] theorem foldl_apply_device (l : List Access) (s : State) : (l.foldl Access.apply s).device = s.device := by
  induction l generalizing s with
  | nil => rfl
  | cons x l ih => rw [List.foldl_cons, ih, Access.apply_device]

theorem Access.apply_inv (s : State) (h : s.Inv) (x : Access) : (x.apply s).Inv := by
  cases x with
  | read a => exact s.afterReads_inv h [a]
  | write a v => exact s.write_inv h a v

theorem foldl_apply_inv (l : List Access) (s : State) (h : s.Inv) : (l.foldl Access.apply s).Inv := by
  induction l generalizing s with
  | nil => exact h
  | cons x l ih => exact ih _ (Access.apply_inv s h x)

/-- A state that has the memory some port calls leave keeps the invariant and the device. -/
theorem inv_of_foldl_port {s t : State} {l : List Access} (hport : SamePort (l.foldl Access.apply s) t) (h : s.Inv) :
    t.Inv ∧ t.device = s.device := by
  obtain ⟨hmem, hdevice, hcalls⟩ := hport
  exact ⟨State.inv_congr _ t (foldl_apply_inv l s h) hmem hdevice hcalls, hdevice.trans (foldl_apply_device l s)⟩

/-- The accumulator form is the shifts' and rotates' alone (R83). -/
theorem mode_ne_accumulator {i : Instr} {ms : List Mnemonic} (h : i.mnemonic ∈ ms)
    (hms : ∀ m ∈ ms, m ∉ [.asl, .lsr, .rol, .ror]) : i.mode ≠ .accumulator := fun hmode =>
  hms _ h (by simpa using mnemonic_of_accumulator i hmode)

theorem am_acc_of_mode_ne (s : State) {o : Operand} (h : o.mode ≠ .accumulator) : (s.am o).acc = false := by
  rw [am_acc]
  exact decide_eq_false h

/-- The accesses of an operation speak of the registers and flags, which the reads of the mode leave alone. -/
theorem operationAccesses_afterMode (m : Mnemonic) (am : Am) (s : State) (o : Operand) (pc next : Word) :
    operationAccesses m am { s.afterMode o with pc := pc } next = operationAccesses m am s next := rfl

/-- The accesses of an instruction once its bytes are fetched: the reads of its mode, then those of its operation. -/
def execAccesses (i : Instr) (s : State) : List Access :=
  (s.modeReads i.operand).map .read ++ operationAccesses i.mnemonic (s.am i.operand) s (s.nextPc i)

/-- The memory an instruction leaves. -/
theorem exec_port {i : Instr} {s t : State} (h : exec i s = .next t) :
    SamePort ((execAccesses i s).foldl Access.apply s) t := by
  obtain rfl := (exec_next_iff i s t).mp h
  have hop := opOf_port i.mnemonic (s.am i.operand) { s.afterMode i.operand with pc := s.nextPc i } fun hm =>
    am_acc_of_mode_ne s (mode_ne_accumulator hm (by decide))
  rw [operationAccesses_afterMode] at hop
  rw [execAccesses, List.foldl_append, foldl_reads]
  refine SamePort.trans ?_ hop
  exact SamePort.foldl _ ⟨rfl, rfl, rfl⟩

/-- The addresses of an instruction's bytes: that of the opcode, then those of the operand bytes (R61). -/
theorem addressesFrom_length (a : Word) (i : Instr) :
    addressesFrom a i.length = a :: addressesFrom (a + 1#16) i.operand.mode.adv := by
  rw [Instr.length, Nat.add_comm]
  rfl

/-- A step lists the reads of the instruction's bytes, then the instruction's accesses after them. -/
theorem stepAccesses_of_decodeAt_ok {s : State} {i : Instr} (h : s.decodeAt = .ok i) :
    stepAccesses s = (addressesFrom s.pc i.length).map .read ++ execAccesses i (s.fetched i) := by
  simp only [stepAccesses, h, instrAccesses, operandReads, execAccesses, addressesFrom_length, List.map_cons,
    List.map_append, List.cons_append, List.append_assoc, State.fetched_pc]

/-- A step that answers a next state has decoded an instruction and run it. -/
theorem exists_exec_of_step {s t : State} (h : step s = .next t) :
    ∃ i, s.decodeAt = .ok i ∧ exec i (s.fetched i) = .next t := by
  cases hi : s.decodeAt with
  | ok i => exact ⟨i, rfl, (step_of_decodeAt_ok hi).symm.trans h⟩
  | error f =>
    rw [step, hi] at h
    cases h

/-- The memory a step leaves, where it answers a next state. -/
theorem step_port {s t : State} (h : step s = .next t) : SamePort ((stepAccesses s).foldl Access.apply s) t := by
  obtain ⟨i, hi, hexec⟩ := exists_exec_of_step h
  rw [stepAccesses_of_decodeAt_ok hi, List.foldl_append, foldl_reads]
  exact exec_port hexec

/-- Settles O10: what the listed calls leave meets the invariant, and the state has that memory. -/
theorem stepKeepsTheInvariant : Obligations.StepKeepsTheInvariant := fun _ _ hinv h =>
  inv_of_foldl_port (step_port h) hinv

/-- A step that answers no next state has read an opcode that the map lacks, and nothing else (R230). -/
theorem stepAccesses_of_unmapped (s : State) (h : rowOf (s.read s.pc) = none) : stepAccesses s = [.read s.pc] := by
  rw [stepAccesses, s.decodeAt_of_unmapped h]

theorem afterFault_port (s : State) : SamePort ([Access.read s.pc].foldl Access.apply s) s.afterFault := ⟨rfl, rfl, rfl⟩

/-- A run that has so far made the calls `made` from `s₀`, and is in the state they leave, ends in the state that all
its calls leave. -/
theorem runLoop_port (s₀ : State) (budget fuel elapsed : Nat) (made : List Access) (s : State)
    (h : SamePort (made.foldl Access.apply s₀) s) :
    SamePort ((runLoop budget fuel elapsed made s).accesses.foldl Access.apply s₀)
      (runLoop budget fuel elapsed made s).state := by
  induction fuel generalizing elapsed made s with
  | zero => exact h
  | succ fuel ih =>
    have hmore : SamePort ((made ++ stepAccesses s).foldl Access.apply s₀) ((stepAccesses s).foldl Access.apply s) := by
      rw [List.foldl_append]
      exact SamePort.foldl _ h
    obtain ⟨t, ht⟩ | ⟨hfault, hrow⟩ := step_next_or_unmapped s
    · simp only [runLoop, ht]
      split
      · exact hmore.trans (step_port ht)
      · exact ih _ _ t (hmore.trans (step_port ht))
    · rw [stepAccesses_of_unmapped s hrow] at hmore
      simp only [runLoop, hfault, stepAccesses_of_unmapped s hrow]
      exact hmore.trans (afterFault_port s)

/-- The memory a transaction leaves is what its listed calls make of the memory before it. -/
theorem State.transact_port (s : State) (x : Transaction) :
    SamePort ((s.accesses x).foldl Access.apply s) (s.transact x) := by
  cases x with
  | reset => exact ⟨rfl, rfl, by simp [State.accesses, resetAccesses, Access.apply, State.transact]⟩
  | step =>
    simp only [State.accesses, State.transact]
    obtain ⟨t, ht⟩ | ⟨hfault, hrow⟩ := step_next_or_unmapped s
    · rw [ht]
      exact step_port ht
    · rw [hfault, stepAccesses_of_unmapped s hrow]
      exact afterFault_port s
  | runFor n => exact runLoop_port s n n 0 [] s ⟨rfl, rfl, rfl⟩
  | runUnbounded fuel => exact runLoop_port s 0 fuel 0 [] s ⟨rfl, rfl, rfl⟩
  | triggerIrq =>
    cases hi : s.p.i with
    | false =>
      rw [s.accesses_triggerIrq_of_clear hi, State.transact, s.triggerIrq_of_clear hi]
      exact interrupt_port s s.pc false Config.irqVector
    | true =>
      simp only [State.accesses, State.transact, hi, s.triggerIrq_of_set hi]
      exact ⟨rfl, rfl, rfl⟩
  | triggerNmi => exact interrupt_port s s.pc false Config.nmiVector

/-- Settles O12: by the length of the sequence, each transaction leaving what its listed calls do. -/
theorem transactionsKeepTheInvariant : Obligations.TransactionsKeepTheInvariant := by
  intro s t hinv hreaches
  induction hreaches with
  | refl => exact ⟨hinv, rfl⟩
  | next t x _ ih =>
    obtain ⟨ht, hdevice⟩ := ih
    obtain ⟨hnext, hsame⟩ := inv_of_foldl_port (t.transact_port x) ht
    exact ⟨hnext, hsame.trans hdevice⟩

/-- Settles O11: both states are written out. -/
theorem resetStateMeetsTheInvariant : Obligations.ResetStateMeetsTheInvariant := ⟨⟨rfl, fun _ => rfl⟩, rfl⟩

/-- The second byte of a pointer in page zero (R93, R94). -/
theorem pointerHigh_zext_eq_zext (b : Byte) : pointerHigh (zext b) = zext (b + 1#8) := by
  rw [pointerHigh_zext (Nat.mod_eq_of_lt b.isLt).symm, zext_add]
  rfl

/-- Settles O56: the step's memory is what its calls leave; then the list, and each mode's reads, by computation. -/
theorem stepMemoryIsItsBusWrites : Obligations.StepMemoryIsItsBusWrites := by
  intro s t h
  obtain ⟨hmem, -, hcalls⟩ := step_port h
  obtain ⟨i, hi, -⟩ := exists_exec_of_step h
  refine ⟨hmem, hcalls, i, hi, ?accesses, ?reads⟩
  case accesses =>
    simp only [stepAccesses, hi, instrAccesses, nextPc_eq, State.fetched_pc]
    rfl
  case reads =>
    have hpc2 : s.pc + 2#16 = s.pc + 1#16 + 1#16 := (BitVec.add_assoc s.pc 1#16 1#16).symm
    rw [hpc2]
    generalize i.operand = o
    cases o
    case indirectX b | indirectY b =>
      simp [operandReads, Operand.mode, Mode.adv, addressesFrom, State.modeReads, pointerHigh_zext_eq_zext, State.am,
        addressing]
    all_goals rfl

/-- In a RAM a write changes the contents alone. -/
theorem State.write_of_ram (s : State) (hd : s.device ≠ .attached) (a : Word) (v : Byte) :
    s.write a v = { s with mem := s.device.writeByte s.mem a v } := by
  rw [State.write, Device.record_of_ram _ hd]

/-- What one call on the port does, by the device (R41, R45). -/
theorem apply_of_ram (s : State) (hd : s.device ≠ .attached) (a : Word) (v : Byte) :
    Access.apply s (.read a) = s ∧ ∃ m : Memory, Access.apply s (.write a v) = { s with mem := m } :=
  ⟨s.afterReads_of_ram hd [a], _, s.write_of_ram hd a v⟩

theorem apply_of_attached (s : State) (hd : s.device = .attached) (a : Word) (v : Byte) :
    s.read a = Config.portByte s.calls a ∧
      Access.apply s (.read a) = { s with calls := s.calls ++ [.read a] } ∧
      Access.apply s (.write a v) = { s with calls := s.calls ++ [.write a v] } := by
  simp [Access.apply, State.read, State.afterReads, State.write, hd, Device.readByte, Device.record, Device.writeByte]

/-- The interrupt sequence's accesses, its return address written byte by byte (R220). -/
theorem interruptAccesses_eq (s : State) (ret : Word) (b : Bool) (vec : Word) :
    interruptAccesses s ret b vec = [.write (stackAddr s.sp) (BitVec.ofNat 8 (ret.toNat / 256)),
      .write (stackAddr (s.sp - 1#8)) (BitVec.ofNat 8 ret.toNat), .write (stackAddr (s.sp - 2#8)) (s.p.pushed b),
      .read vec, .read (vec + 1#16)] := by
  rw [← hi_eq_ofNat, ← lo_eq_ofNat]
  rfl

/-- Settles O57: one call by the device, a transaction by its calls in a row, and the lists by computation. -/
theorem portCallsOfEveryTransaction : Obligations.PortCallsOfEveryTransaction := by
  refine ⟨fun s a v => ⟨fun hd => apply_of_ram s hd a v, fun hd => apply_of_attached s hd a v⟩,
    fun s x => ?transactions, fun s => ⟨rfl, rfl, ?irq, interruptAccesses_eq s s.pc false Config.nmiVector⟩⟩
  case transactions =>
    obtain ⟨hmem, -, hcalls⟩ := s.transact_port x
    exact ⟨hmem, hcalls, fun hd => hcalls.trans (foldl_calls_of_attached _ s hd)⟩
  case irq =>
    rw [State.accesses, interruptAccesses_eq]
    rfl

end Sys2Proof.Machine
end

section
/-! The sequencer (40_step_and_addressing.md R80, 60_exceptions.md R230): a step is exec of the instruction whose bytes
are read from PC on, or the one fault. -/

namespace Sys2Proof.Machine

theorem addressesFrom_eq_map_range (a : Word) (n : Nat) :
    addressesFrom a n = (List.range n).map fun k => a + BitVec.ofNat 16 k := by
  induction n generalizing a with
  | zero => rfl
  | succ n ih =>
    have hnext (k : Nat) : a + 1#16 + BitVec.ofNat 16 k = a + BitVec.ofNat 16 (k + 1) := by
      rw [Nat.add_comm k 1, BitVec.ofNat_add, BitVec.add_assoc]
    simp only [addressesFrom, ih, hnext, List.range_succ_eq_map, List.map_cons, List.map_map, Function.comp_def,
      BitVec.add_zero, Nat.succ_eq_add_one]

theorem decodeAt_of_decode {s : State} {i : Instr} {rest : List Byte} (h : decode s.fetchBytes = .ok (i, rest)) :
    s.decodeAt = .ok i := by
  rw [State.decodeAt, h]

theorem step_of_decodeAt_of_ram {s : State} {i : Instr} (h : s.decodeAt = .ok i) (hd : s.device ≠ .attached) :
    step s = exec i s := by
  rw [step_of_decodeAt_ok h, s.fetched_of_ram hd]

/-- Settles O6: the fetch's addresses ascend from PC. -/
theorem stepRunsTheDecodedInstruction : Obligations.StepRunsTheDecodedInstruction := by
  intro s i rest h
  have hi := decodeAt_of_decode h
  exact ⟨step_of_decodeAt_ok hi, congrArg s.afterReads (addressesFrom_eq_map_range s.pc i.length),
    step_of_decodeAt_of_ram hi⟩

/-- The opcode of an instruction tells its length (R60). -/
theorem opcodeLength_opcode (i : Instr) : opcodeLength i.opcode = i.length := by
  obtain ⟨-, -, -, cycles, penalty, hrow⟩ := Laws.Shape.all i
  simp only [opcodeLength, hrow, Instr.length]

/-- Where the reads from PC on give an encoding, the fetch makes as many reads and decodes it. -/
theorem decodeAt_of_readBytes {s : State} {i : Instr} (h : s.readBytes s.pc i.length = encode i) :
    s.decodeAt = .ok i := by
  have hread : s.read s.pc = i.opcode := by
    rw [Instr.length, Nat.add_comm] at h
    exact (List.cons.inj h).1
  refine decodeAt_of_decode (rest := []) ?_
  rw [State.fetchBytes, hread, opcodeLength_opcode, h]
  simpa using decode_encode i []

/-- In a RAM no read depends on the ones before it. -/
theorem readBytes_of_ram (s : State) (hd : s.device ≠ .attached) (a : Word) (n : Nat) :
    s.readBytes a n = (addressesFrom a n).map s.read := by
  induction n generalizing a with
  | zero => rfl
  | succ n ih => rw [State.readBytes, s.afterReads_of_ram hd, ih, addressesFrom, List.map_cons]

/-- Settles O7: the reads give the encoding, which decodes to the instruction. -/
theorem stepRunsTheEncodedInstruction : Obligations.StepRunsTheEncodedInstruction := by
  refine fun s i => ⟨fun h => step_of_decodeAt_ok (decodeAt_of_readBytes h), fun hd h => ?ram⟩
  case ram =>
    refine step_of_decodeAt_of_ram (decodeAt_of_readBytes ?_) hd
    obtain ⟨-, -, hlength, -⟩ := Laws.Shape.all i
    rw [readBytes_of_ram s hd, addressesFrom_eq_map_range, List.map_map]
    refine List.ext_getElem (by simp [hlength]) fun k _ hk => ?_
    simpa using h k _ (List.getElem?_eq_getElem hk)

theorem stepCycles_of_unmapped (s : State) (h : rowOf (s.read s.pc) = none) : stepCycles s = 1 := by
  rw [stepCycles, s.decodeAt_of_unmapped h]
  rfl

/-- Settles O9: nothing decodes at PC, so the step is the fault and its one access the opcode's read. -/
theorem unmappedOpcodeFaultsAndCommitsNothing : Obligations.UnmappedOpcodeFaultsAndCommitsNothing := by
  intro s h
  have hstep := step_of_unmapped s h
  have htransact : s.transact .step = s.afterReads [s.pc] := by
    simp only [State.transact, hstep]
    rfl
  exact ⟨hstep, stepCycles_of_unmapped s h, stepAccesses_of_unmapped s h, htransact,
    fun hd => htransact.trans (s.afterReads_of_ram hd _)⟩

end Sys2Proof.Machine
end

section
/-! Contents of memory as plain data (20_memory.md R40, R50): a canonical list is determined by what it reads as, and in
plain RAM every address is a cell of its own. -/

namespace Sys2Proof.Machine

/-- Past the last cell nothing is listed. -/
theorem Memory.get_of_le (size start : Nat) (m : Memory) (a : Nat) (hm : Memory.wfFrom size start m = true)
    (ha : size ≤ a) : Memory.get m a = Config.unlistedByte := by
  induction m generalizing start with
  | nil => rfl
  | cons e m ih =>
    obtain ⟨k, b⟩ := e
    simp only [Memory.wfFrom, Bool.and_eq_true, decide_eq_true_eq] at hm
    obtain ⟨⟨⟨-, hk⟩, -⟩, hm⟩ := hm
    simp only [Memory.get, if_neg (show a ≠ k by omega), ih (k + 1) hm]

theorem Memory.wfFrom_cons_iff (size start k : Nat) (b : Byte) (m : Memory) :
    Memory.wfFrom size start ((k, b) :: m) = true ↔
      start ≤ k ∧ k < size ∧ b ≠ Config.unlistedByte ∧ Memory.wfFrom size (k + 1) m = true := by
  simp [Memory.wfFrom, and_assoc]

/-- A canonical memory lists nothing before its first cell, so another that reads alike there begins no later. -/
theorem Memory.head_le_of_get_eq {size start k k' : Nat} {b b' : Byte} {m m' : Memory}
    (hm : Memory.wfFrom size start ((k, b) :: m) = true) (hm' : Memory.wfFrom size start ((k', b') :: m') = true)
    (h : Memory.get ((k, b) :: m) k = Memory.get ((k', b') :: m') k) : k' ≤ k := by
  obtain ⟨-, -, hb, -⟩ := (Memory.wfFrom_cons_iff ..).mp hm
  obtain ⟨-, htail⟩ := (Memory.wfFrom_cons_iff ..).mp hm'
  by_contra hlt
  have hbelow : Memory.get ((k', b') :: m') k = Config.unlistedByte :=
    Memory.get_below size k' _ k ((Memory.wfFrom_cons_iff ..).mpr ⟨le_rfl, htail⟩) (Nat.not_le.mp hlt)
  rw [hbelow] at h
  exact hb (by simpa [Memory.get] using h)

/-- Canonical memories that read alike are the same list. -/
theorem Memory.eq_of_get_eq {size start : Nat} {m m' : Memory} (hm : Memory.wfFrom size start m = true)
    (hm' : Memory.wfFrom size start m' = true) (h : ∀ a, Memory.get m a = Memory.get m' a) : m = m' := by
  induction m generalizing start m' with
  | nil =>
    cases m' with
    | nil => rfl
    | cons e' m' =>
      obtain ⟨k', b'⟩ := e'
      obtain ⟨-, -, hb', -⟩ := (Memory.wfFrom_cons_iff ..).mp hm'
      exact absurd (by simpa [Memory.get] using (h k').symm) hb'
  | cons e m ih =>
    obtain ⟨k, b⟩ := e
    obtain ⟨-, -, hb, htail⟩ := (Memory.wfFrom_cons_iff ..).mp hm
    cases m' with
    | nil => exact absurd (by simpa [Memory.get] using h k) hb
    | cons e' m' =>
      obtain ⟨k', b'⟩ := e'
      obtain rfl : k' = k :=
        le_antisymm (Memory.head_le_of_get_eq hm hm' (h k)) (Memory.head_le_of_get_eq hm' hm (h k').symm)
      obtain ⟨-, -, -, htail'⟩ := (Memory.wfFrom_cons_iff ..).mp hm'
      obtain rfl : b = b' := by simpa [Memory.get] using h k'
      refine congrArg _ (ih htail htail' fun a => ?_)
      by_cases ha : a = k'
      · rw [ha, Memory.get_below size _ m k' htail (Nat.lt_succ_self _),
          Memory.get_below size _ m' k' htail' (Nat.lt_succ_self _)]
      · simpa only [Memory.get, if_neg ha] using h a

/-- Every cell of a RAM is named by the address of its own number. -/
theorem Device.cell_ofNat (d : Device) (hd : d ≠ .attached) (k : Nat) (hk : k < d.size) :
    d.cell (BitVec.ofNat 16 k) = k := by
  have hsize : d.size ≤ 2 ^ 16 := by
    cases d with
    | ram64k => exact le_rfl
    | mirrored z => cases z <;> decide
    | attached => exact absurd rfl hd
  rw [d.cell_eq_mod hd, BitVec.toNat_ofNat, Nat.mod_eq_of_lt (hk.trans_le hsize), Nat.mod_eq_of_lt hk]

/-- Settles O13: every cell has an address, so equal reads are equal contents, and no RAM keeps a call. -/
theorem equalReadsAreEqualMemories : Obligations.EqualReadsAreEqualMemories := by
  intro s t hs ht hd hsame hread
  obtain ⟨hmem, hcalls⟩ := hs
  obtain ⟨hmem', hcalls'⟩ := ht
  rw [← hsame] at hmem' hcalls'
  refine ⟨Memory.eq_of_get_eq hmem hmem' fun k => ?cell, (hcalls hd).trans (hcalls' hd).symm⟩
  case cell =>
    by_cases hk : k < s.device.size
    · have h := hread (BitVec.ofNat 16 k)
      rwa [s.read_of_ram hd, t.read_of_ram (hsame ▸ hd), ← hsame, s.device.cell_ofNat hd k hk] at h
    · rw [Memory.get_of_le _ 0 s.mem k hmem (Nat.not_lt.mp hk), Memory.get_of_le _ 0 t.mem k hmem' (Nat.not_lt.mp hk)]

theorem Device.cell_ram64k (a : Word) : Device.ram64k.cell a = a.toNat := by
  rw [Device.cell_eq_mod _ (by decide)]
  exact Nat.mod_eq_of_lt a.isLt

/-- In plain RAM a written byte is read back at its own address alone. -/
theorem State.read_write_ram64k (s : State) (h : s.Inv) (hd : s.device = .ram64k) (a : Word) (v : Byte) (b : Word) :
    (s.write a v).read b = if b = a then v else s.read b := by
  rw [s.read_write_cell (by simp [hd]) h, hd, Device.cell_ram64k, Device.cell_ram64k]
  exact if_congr BitVec.toNat_inj rfl rfl

/-- Settles O15: each address is a cell of its own, and the two bytes of a word lie in two of them. -/
theorem plainRamReadsTheLastWrite : Obligations.PlainRamReadsTheLastWrite := by
  intro s a v h hd
  have hram : s.device ≠ .attached := by simp [hd]
  refine ⟨s.read_write_ram64k h hd a v, ⟨_, s.write_of_ram hram a v⟩, fun w => ?word⟩
  case word =>
    have hne : a ≠ a + 1#16 := by bv_omega
    have hread := (s.write a (lo w)).read_write_ram64k (s.write_inv h a _) hd (a + 1#16) (hi w)
    have hafter := ((s.write a (lo w)).write (a + 1#16) (hi w)).afterReads_of_ram hram [a]
    rw [State.read16, State.readPair, hafter, hread, hread, if_pos rfl, if_neg hne,
      s.read_write_ram64k h hd, if_pos rfl, word_hi_lo]

end Sys2Proof.Machine
end

section
/-! What the forms of each mnemonic answer (files 41 to 49), written out from `exec_next`: one operation serves all the
forms of a mnemonic, so none is taken apart. -/

namespace Sys2Proof.Machine

/-- What the forms of a mnemonic answer: its operation's state, PC past the instruction. -/
theorem exec_of_mnemonic {i : Instr} {m : Mnemonic} (h : i.mnemonic = m) (s : State) :
    exec i s = .next (opOf m (s.am i.operand)
      { s.afterMode i.operand with pc := s.pc + BitVec.ofNat 16 i.length }) := by
  rw [exec_next, h, nextPc_eq]

/-- Settles O31: the register takes the addressed value and `SetZN` its flags. -/
theorem loadsCopyTheOperand : Obligations.LoadsCopyTheOperand :=
  fun _ s => ⟨(exec_of_mnemonic · s), (exec_of_mnemonic · s), (exec_of_mnemonic · s)⟩

/-- Settles O33: an Implied instruction runs its operation at the next byte. -/
theorem transfersCopyARegister : Obligations.TransfersCopyARegister := fun s =>
  ⟨exec_of_implied .tax rfl s, exec_of_implied .tay rfl s, exec_of_implied .tsx rfl s, exec_of_implied .txa rfl s,
    exec_of_implied .txs rfl s, exec_of_implied .tya rfl s⟩

/-- Settles O44: as the transfers. -/
theorem incAndDecOnRegisters : Obligations.IncAndDecOnRegisters := fun s =>
  ⟨exec_of_implied .inx rfl s, exec_of_implied .dex rfl s, exec_of_implied .iny rfl s, exec_of_implied .dey rfl s⟩

/-- Settles O48: as the transfers. -/
theorem flagInstructionsAndNop : Obligations.FlagInstructionsAndNop := fun s =>
  ⟨exec_of_implied .clc rfl s, exec_of_implied .sec rfl s, exec_of_implied .cld rfl s, exec_of_implied .sed rfl s,
    exec_of_implied .cli rfl s, exec_of_implied .sei rfl s, exec_of_implied .clv rfl s, exec_of_implied .nop rfl s⟩

/-- Settles O35: the operations are R140 to R143 as they stand. -/
theorem logicAndBitTest : Obligations.LogicAndBitTest :=
  fun _ s => ⟨(exec_of_mnemonic · s), (exec_of_mnemonic · s), (exec_of_mnemonic · s), (exec_of_mnemonic · s)⟩

/-- The compare helper with Z as the equality of the bytes (R169). -/
theorem Flags.compare_eq_beq (p : Flags) (r v : Byte) :
    p.compare r v = { p with c := decide (v.toNat ≤ r.toNat), z := r == v, n := bit (r - v) 7 } := by
  have hz : (r - v == 0#8) = (r == v) := by rw [Bool.eq_iff_iff, beq_iff_eq, beq_iff_eq]; exact sub_eq_zero
  rw [Flags.compare_eq_sub, hz]

/-- Settles O42: each mnemonic compares its register by the one helper. -/
theorem comparesSetFlagsOnly : Obligations.ComparesSetFlagsOnly := by
  refine fun i s => ⟨fun h => ?cmp, fun h => ?cpx, fun h => ?cpy⟩
  case cmp =>
    simp only [exec_of_mnemonic h, opOf, opCmp, Flags.compare_eq_beq]
    rfl
  case cpx =>
    simp only [exec_of_mnemonic h, opOf, opCpx, Flags.compare_eq_beq]
    rfl
  case cpy =>
    simp only [exec_of_mnemonic h, opOf, opCpy, Flags.compare_eq_beq]
    rfl

/-- A branch reads nothing after its operand byte and moves PC alone (R101, R190). -/
theorem exec_of_relative (i : Instr) (h : i.mode = .relative) (s : State) :
    exec i s = .next { s with
      pc := if branchTaken i.mnemonic s.p then (s.am i.operand).ea else s.pc + BitVec.ofNat 16 i.length } := by
  obtain ⟨b, hb⟩ := operand_of_relative i h
  have hmode : s.afterMode i.operand = s := by
    rw [hb]
    exact s.afterReads_nil
  rw [exec_next, opOf_relative i h, nextPc_eq, hmode, branch]
  cases branchTaken i.mnemonic s.p <;> rfl

/-- Where a branch leaves PC, over signed numbers (R101, R190). -/
theorem branch_pc_eq_ofInt (pc : Word) (b : Byte) (taken : Bool) :
    (if taken then pc + 1#16 + 1#16 + sext b else pc + 2#16) =
      BitVec.ofInt 16 ((pc.toNat : Int) + 2 + (if taken then b.toInt else 0)) := by
  have hpc : BitVec.ofInt 16 pc.toNat = pc := by rw [BitVec.ofInt_natCast, BitVec.ofNat_toNat, BitVec.setWidth_eq]
  rw [BitVec.ofInt_add, BitVec.ofInt_add, hpc]
  cases taken with
  | true => exact congrArg (· + sext b) (BitVec.add_assoc pc 1#16 1#16)
  | false => exact (BitVec.add_zero _).symm

theorem exec_branch (i : Instr) (b : Byte) (h : i.operand = .relative b) (s : State) :
    exec i s = .next { s with
      pc := BitVec.ofInt 16 ((s.pc.toNat : Int) + 2 + (if branchTaken i.mnemonic s.p then b.toInt else 0)) } := by
  have hmode : i.mode = .relative := by rw [Instr.mode, h]; rfl
  have hlength : i.length = 2 := by rw [Instr.length, hmode]; rfl
  rw [exec_of_relative i hmode, h, hlength, ← branch_pc_eq_ofInt]
  rfl

/-- Settles O45: each mnemonic has its own condition, and one helper moves PC. -/
theorem branchesTestOneFlag : Obligations.BranchesTestOneFlag := fun s b =>
  ⟨exec_branch (.bpl b) b rfl s, exec_branch (.bmi b) b rfl s, exec_branch (.bvc b) b rfl s,
    exec_branch (.bvs b) b rfl s, exec_branch (.bcc b) b rfl s, exec_branch (.bcs b) b rfl s,
    exec_branch (.bne b) b rfl s, exec_branch (.beq b) b rfl s⟩

/-- The second byte of a pointer over numbers: it keeps the page of the first (R92). -/
theorem pointerHigh_eq_ofNat (w : Word) :
    pointerHigh w = BitVec.ofNat 16 (w.toNat / 256 * 256 + (w.toNat + 1) % 256) := by
  have := w.isLt
  apply BitVec.eq_of_toNat_eq
  rw [pointerHigh, word_toNat, hi_toNat, BitVec.toNat_add, lo_toNat, BitVec.toNat_ofNat, BitVec.toNat_ofNat]
  omega

/-- Two pulls in a row, as reads of two slots (R98). -/
theorem State.popped_popped (s : State) :
    s.popped.popped = { s.afterReads [stackAddr (s.sp + 1#8), stackAddr (s.sp + 2#8)] with sp := s.sp + 2#8 } := by
  have hsp : s.sp + 1#8 + 1#8 = s.sp + 2#8 := BitVec.add_assoc s.sp 1#8 1#8
  simp [State.popped, State.afterReads, hsp]

/-- Three pulls in a row. -/
theorem State.popped_popped_popped (s : State) :
    s.popped.popped.popped =
      { s.afterReads [stackAddr (s.sp + 1#8), stackAddr (s.sp + 2#8), stackAddr (s.sp + 3#8)] with
        sp := s.sp + 3#8 } := by
  have h2 : s.sp + 1#8 + 1#8 = s.sp + 2#8 := BitVec.add_assoc s.sp 1#8 1#8
  have h3 : s.sp + 1#8 + 2#8 = s.sp + 3#8 := BitVec.add_assoc s.sp 1#8 2#8
  rw [State.popped_popped]
  simp [State.popped, State.afterReads, h2, h3]

/-- The word two pulls give, as the bytes of two slots (R99). -/
theorem State.pulledWord_eq (s : State) :
    s.pulledWord = word ((s.afterReads [stackAddr (s.sp + 1#8)]).read (stackAddr (s.sp + 2#8)))
      (s.read (stackAddr (s.sp + 1#8))) := by
  rw [State.pulledWord, State.pulledByte_popped, State.pulledByte]

/-- RTS resumes past the pulled address (R201). -/
theorem exec_rts (s : State) :
    exec .rts s = .next { s.afterReads [stackAddr (s.sp + 1#8), stackAddr (s.sp + 2#8)] with
      sp := s.sp + 2#8
      pc := word ((s.afterReads [stackAddr (s.sp + 1#8)]).read (stackAddr (s.sp + 2#8)))
        (s.read (stackAddr (s.sp + 1#8))) + 1#16 } := by
  rw [exec_of_implied .rts rfl s]
  simp only [Instr.mnemonic, opOf, opRts, State.popped_popped, State.pulledWord_eq]
  rfl

theorem exec_jsr (w : Word) (s : State) :
    exec (.jsr w) s = .next { (s.afterReads [w]).pushWord (s.pc + 2#16) with pc := w } := by
  have hret : s.pc + 3#16 - 1#16 = s.pc + 2#16 := by bv_omega
  rw [exec_of_mnemonic (m := .jsr) rfl, ← hret]
  rfl

theorem exec_jmpIndirect (w : Word) (s : State) :
    exec (.jmpIndirect w) s =
      .next { s.afterReads [w, pointerHigh w, readPointer s w] with pc := readPointer s w } :=
  exec_of_mnemonic (m := .jmp) rfl s

/-- Settles O46: JSR's return address is its own last byte, and the Indirect pointer keeps its page. -/
theorem jumpsCallAndReturn : Obligations.JumpsCallAndReturn := by
  intro s w
  rw [← pointerHigh_eq_ofNat]
  exact ⟨exec_of_mnemonic (i := .jmpAbsolute w) (m := .jmp) rfl s, exec_jmpIndirect w s, exec_jsr w s, exec_rts s⟩

/-- The word pulled after a first byte, two and three slots up. -/
theorem State.pulledWord_popped (s : State) :
    s.popped.pulledWord =
      word ((s.afterReads [stackAddr (s.sp + 1#8), stackAddr (s.sp + 2#8)]).read (stackAddr (s.sp + 3#8)))
        ((s.afterReads [stackAddr (s.sp + 1#8)]).read (stackAddr (s.sp + 2#8))) := by
  have h2 : s.sp + 1#8 + 1#8 = s.sp + 2#8 := BitVec.add_assoc s.sp 1#8 1#8
  have h3 : s.sp + 1#8 + 2#8 = s.sp + 3#8 := BitVec.add_assoc s.sp 1#8 2#8
  rw [State.pulledWord_eq, State.popped_sp, h2, h3]
  have hread := State.read_congr (s.afterReads [stackAddr (s.sp + 1#8), stackAddr (s.sp + 2#8)])
    (s.popped.afterReads [stackAddr (s.sp + 2#8)]) rfl rfl (by simp)
  rw [hread]
  rfl

/-- Returning is three pulls, the first of which gives the flags (R222). -/
theorem State.returnFromInterrupt_eq (s : State) :
    s.returnFromInterrupt =
      { s.popped.popped.popped with p := Flags.ofByte s.pulledByte, pc := s.popped.pulledWord } := rfl

/-- Settles O26: the three pulls, slot by slot. -/
theorem rtiRestoresStatusAndAddress : Obligations.RtiRestoresStatusAndAddress := by
  intro s
  rw [exec_of_implied .rti rfl s]
  simp only [Instr.mnemonic, opOf, opRti, State.returnFromInterrupt_eq, State.popped_popped_popped,
    State.pulledWord_popped, State.pulledByte]
  rfl

/-- In a RAM, what is read after a byte has been written at the effective address. -/
theorem State.read_of_written (s t : State) (hd : s.device ≠ .attached) (h : s.Inv) (o : Operand) (ea : Word) (v : Byte)
    (ht : SamePort ((s.afterMode o).write ea v) t) (a : Word) :
    t.read a = if s.device.cell a = s.device.cell ea then v else s.read a := by
  obtain ⟨hmem, hdevice, hcalls⟩ := ht
  rw [State.read_congr _ t hmem hdevice hcalls, s.afterMode_of_ram hd, s.read_write_cell hd h]

/-- Settles O32: one write at the effective address, read back by cells. -/
theorem storesWriteTheRegister : Obligations.StoresWriteTheRegister := by
  intro i s ea stored
  have stored_of_exec (v : Byte)
      (hexec : exec i s =
        .next { (s.afterMode i.operand).write ea v with pc := s.pc + BitVec.ofNat 16 i.length }) : stored v := by
    refine ⟨hexec, fun h hd => ?_⟩
    have hread := s.read_of_written
      { (s.afterMode i.operand).write ea v with pc := s.pc + BitVec.ofNat 16 i.length } hd h i.operand ea v
      ⟨rfl, rfl, rfl⟩
    exact ⟨(hread ea).trans (if_pos rfl), fun a ha => (hread a).trans (if_neg ha)⟩
  exact ⟨fun h => stored_of_exec s.a (exec_of_mnemonic h s), fun h => stored_of_exec s.x (exec_of_mnemonic h s),
    fun h => stored_of_exec s.y (exec_of_mnemonic h s)⟩

/-- Where the destination is memory, the store helper writes there (R102). -/
theorem State.store_of_mode_ne (s t : State) (o : Operand) (h : o.mode ≠ .accumulator) (v : Byte) :
    t.store (s.am o) v = t.write (s.am o).ea v := by
  rw [State.store, am_acc_of_mode_ne s h]
  rfl

theorem modes_of_incDec {m : Mnemonic} (h : m ∈ [.inc, .dec]) :
    m.modes = [.absolute, .absoluteX, .zeroPage, .zeroPageX] := by
  simp only [List.mem_cons, List.not_mem_nil, or_false] at h
  obtain rfl | rfl := h <;> rfl

/-- INC and DEC address memory without a pointer, so their value is the byte at the effective address in the state
before the mode's one read. -/
theorem am_value_of_incDec (i : Instr) (h : i.mnemonic ∈ [.inc, .dec]) (s : State) :
    i.operand.mode ≠ .accumulator ∧ (s.am i.operand).value = s.read (s.am i.operand).ea := by
  have hmode : i.operand.mode ∈ [.absolute, .absoluteX, .zeroPage, .zeroPageX] :=
    modes_of_incDec h ▸ i.mode_mem_modes
  generalize i.operand = o at hmode ⊢
  cases o
  case absolute | absoluteX | zeroPage | zeroPageX => exact ⟨nofun, rfl⟩
  all_goals simp [Operand.mode] at hmode

/-- Settles O43: as the stores, with the byte at the effective address one up or down. -/
theorem incAndDecOnMemory : Obligations.IncAndDecOnMemory := by
  intro i s am stored
  have stored_of_exec (r : Byte) (hm : i.mnemonic ∈ [.inc, .dec])
      (hexec : exec i s = .next
        { State.store { s.afterMode i.operand with pc := s.pc + BitVec.ofNat 16 i.length } am r with
          p := s.p.setZN r }) : stored r := by
    obtain ⟨hmode, hvalue⟩ := am_value_of_incDec i hm s
    rw [State.store_of_mode_ne s _ i.operand hmode] at hexec
    refine ⟨hexec, hvalue, fun h hd => ?_⟩
    have hread := s.read_of_written { (s.afterMode i.operand).write am.ea r with
      p := s.p.setZN r, pc := s.pc + BitVec.ofNat 16 i.length } hd h i.operand am.ea r ⟨rfl, rfl, rfl⟩
    exact ⟨(hread am.ea).trans (if_pos rfl), fun a ha => (hread a).trans (if_neg ha)⟩
  have hinc : BitVec.ofNat 8 (am.value.toNat + 1) = am.value + 1#8 := (BitVec.add_def am.value 1#8).symm
  have hdec : BitVec.ofNat 8 (am.value.toNat + 255) = am.value - 1#8 := by
    rw [Nat.add_comm]
    exact (BitVec.sub_def am.value 1#8).symm
  rw [hinc, hdec]
  exact ⟨fun h => stored_of_exec _ (by simp [h]) (exec_of_mnemonic h s),
    fun h => stored_of_exec _ (by simp [h]) (exec_of_mnemonic h s)⟩

theorem operand_of_accumulator {i : Instr} (h : i.mode = .accumulator) : i.operand = .accumulator :=
  Operand.eq_of_mode_bytes h (List.eq_nil_of_length_eq_zero (by rw [length_operand_bytes, ← Instr.mode, h]; rfl))

/-- What a shift or rotate answers: its result goes where the operand came from (R102, R150 to R153). -/
theorem exec_of_storeShifted {i : Instr} {s : State} {shifted : Shifted} {r : Byte} {c : Bool}
    (h : exec i s = .next (State.storeShifted
      { s.afterMode i.operand with pc := s.pc + BitVec.ofNat 16 i.length } (s.am i.operand) shifted))
    (hr : shifted = ⟨r, c⟩) :
    exec i s = .next { (if i.mode = .accumulator then { s with a := r }
        else (s.afterMode i.operand).write (s.am i.operand).ea r) with
      p := { s.p with c := c, z := r == 0#8, n := bit r 7 }, pc := s.pc + BitVec.ofNat 16 i.length } := by
  rw [h, hr, State.storeShifted]
  split
  · next hacc =>
    have hmode : s.afterMode .accumulator = s := s.afterReads_nil
    rw [operand_of_accumulator hacc, hmode]
    rfl
  · next hmem =>
    rw [State.store_of_mode_ne s _ i.operand hmem]
    rfl

/-! The four results over numbers, evaluated at every byte and carry (R150 to R153). -/

theorem aslByte_eq : ∀ v : BitVec 8, aslByte v = ⟨BitVec.ofNat 8 (2 * v.toNat), decide (v.toNat ≥ 128)⟩ := by
  decide +kernel

theorem lsrByte_eq : ∀ v : BitVec 8, lsrByte v = ⟨BitVec.ofNat 8 (v.toNat / 2), decide (v.toNat % 2 = 1)⟩ := by
  decide +kernel

theorem rolByte_eq : ∀ (v : BitVec 8) (c : Bool),
    rolByte v c = ⟨BitVec.ofNat 8 (2 * v.toNat + c.toNat), decide (v.toNat ≥ 128)⟩ := by
  decide +kernel

theorem rorByte_eq : ∀ (v : BitVec 8) (c : Bool),
    rorByte v c = ⟨BitVec.ofNat 8 (v.toNat / 2 + 128 * c.toNat), decide (v.toNat % 2 = 1)⟩ := by
  decide +kernel

/-- Settles O36: each result over numbers, then the store helper's two destinations. -/
theorem shiftsAndRotatesWriteBack : Obligations.ShiftsAndRotatesWriteBack := fun _ s =>
  ⟨fun h => exec_of_storeShifted (exec_of_mnemonic h s) (aslByte_eq _),
    fun h => exec_of_storeShifted (exec_of_mnemonic h s) (lsrByte_eq _),
    fun h => exec_of_storeShifted (exec_of_mnemonic h s) (rolByte_eq _ _),
    fun h => exec_of_storeShifted (exec_of_mnemonic h s) (rorByte_eq _ _)⟩

end Sys2Proof.Machine
end

section
/-! What is pushed is pulled again (10_state.md R28, R29; 42_stack.md, 47_branch_jump.md, 49_brk_rti.md): the status
gives back its flags, and RTS and RTI find in a RAM the slots that JSR and BRK have written. -/

namespace Sys2Proof.Machine

/-- A pulled status ignores Constant and B (R29). -/
theorem Flags.ofByte_pushed (p : Flags) (b : Bool) : Flags.ofByte (p.pushed b) = p := by
  obtain ⟨hc, hz, hi, hd, -, -, hv, hn⟩ := p.pushed_bits b
  rw [Flags.ofByte, hc, hz, hi, hd, hv, hn]

/-- The view keeps the six flag bits (D2), evaluated at every byte. -/
theorem Flags.view_ofByte : ∀ b : BitVec 8, (Flags.ofByte b).view = (b &&& 0xCF#8) ||| 0x20#8 := by decide +kernel

theorem Flags.ofByte_xor_unstored : ∀ b : BitVec 8, Flags.ofByte (b ^^^ 0x30#8) = Flags.ofByte b := by decide +kernel

/-- Settles O24: bits 4 and 5 are stored nowhere, and every other bit of a pushed status is its flag. -/
theorem pulledStatusByte : Obligations.PulledStatusByte :=
  ⟨fun b => ⟨rfl, Flags.view_ofByte b, Flags.ofByte_xor_unstored b⟩, Flags.ofByte_pushed, fun _ => rfl⟩

theorem exec_pha (s : State) : exec .pha s = .next { s.pushByte s.a with pc := s.pc + 1#16 } :=
  exec_of_implied .pha rfl s

theorem exec_pla (s : State) :
    exec .pla s = .next { s.popped with a := s.pulledByte, p := s.p.setZN s.pulledByte, pc := s.pc + 1#16 } :=
  exec_of_implied .pla rfl s

theorem exec_plp (s : State) : exec .plp s = .next { s.pullStatus with pc := s.pc + 1#16 } :=
  exec_of_implied .plp rfl s

/-- Settles O34: the four are the stack helpers, and in a RAM a pull gives the byte just pushed. -/
theorem stackInstructions : Obligations.StackInstructions := by
  refine ⟨fun s => ⟨exec_pha s, ?php, exec_pla s, exec_plp s⟩, fun s h hd => ⟨?pha_pla, ?php_plp⟩⟩
  case php =>
    have hstatus : s.p.view ||| 0x30#8 = s.p.pushed true := (BitVec.or_assoc s.p.view 0x20#8 0x10#8).symm
    rw [hstatus]
    exact exec_php s
  case pha_pla =>
    refine ⟨_, _, exec_pha s, exec_pla _, ?_, s.popped_sp_pushByte s.a⟩
    exact s.pulledByte_pushByte hd h s.a
  case php_plp =>
    refine ⟨_, _, exec_php s, exec_plp _, ?_, s.popped_sp_pushByte (s.p.pushed true)⟩
    exact (congrArg Flags.ofByte (s.pulledByte_pushByte hd h (s.p.pushed true))).trans (s.p.ofByte_pushed true)

/-- In a RAM RTI's three reads are of the same contents. -/
theorem exec_rti_of_ram (s : State) (hd : s.device ≠ .attached) :
    exec .rti s = .next { s with
      p := Flags.ofByte (s.read (stackAddr (s.sp + 1#8)))
      pc := word (s.read (stackAddr (s.sp + 3#8))) (s.read (stackAddr (s.sp + 2#8)))
      sp := s.sp + 3#8 } := by
  have hreads := s.afterReads_of_ram hd
  have h := rtiRestoresStatusAndAddress s
  simp only [hreads] at h
  exact h

theorem exec_rts_of_ram (s : State) (hd : s.device ≠ .attached) :
    exec .rts s = .next { s with
      sp := s.sp + 2#8
      pc := word (s.read (stackAddr (s.sp + 2#8))) (s.read (stackAddr (s.sp + 1#8))) + 1#16 } := by
  have hreads := s.afterReads_of_ram hd
  rw [exec_rts, hreads, hreads]

/-- In a RAM, what is read is a matter of the contents alone. -/
theorem State.read_congr_of_ram {s t : State} (hd : s.device ≠ .attached) (hmem : t.mem = s.mem)
    (hdevice : t.device = s.device) (a : Word) : t.read a = s.read a := by
  rw [s.read_of_ram hd, t.read_of_ram (hdevice ▸ hd), hmem, hdevice]

/-- RTI undoes an interrupt taken in a RAM, but for the bytes in the three slots of its frame (R222, R240). -/
theorem exec_rti_interrupt (s : State) (hd : s.device ≠ .attached) (h : s.Inv) (ret : Word) (b : Bool) (vec : Word) :
    exec .rti (s.interrupt ret b vec) = .next { s with pc := ret, mem := (s.interrupt ret b vec).mem } := by
  have hsp := s.interrupt_sp_eq_sub_three ret b vec
  have h1 : s.sp - 3#8 + 1#8 = s.sp - 2#8 := by bv_omega
  have h2 : s.sp - 3#8 + 2#8 = s.sp - 1#8 := by bv_omega
  have h3 : s.sp - 3#8 + 3#8 = s.sp := BitVec.sub_add_cancel s.sp 3#8
  have hcalls : (s.interrupt ret b vec).calls = s.calls := by rw [s.interrupt_of_ram hd]
  rw [exec_rti_of_ram (s.interrupt ret b vec) hd, hsp, h1, h2, h3, s.read_interrupt_status hd h,
    s.read_interrupt_low hd h, s.read_interrupt_high hd h, Flags.ofByte_pushed, word_hi_lo, hcalls]
  rfl

/-- Settles O27: BRK takes the interrupt with its address + 2, and RTI undoes it. -/
theorem brkThenRtiReturnsPastThePadding : Obligations.BrkThenRtiReturnsPastThePadding := by
  intro s h hd
  have hret : s.pc + 1#16 + 1#16 = s.pc + 2#16 := BitVec.add_assoc s.pc 1#16 1#16
  have hinv : ({ s with pc := s.pc + 1#16 } : State).Inv := s.inv_setPc h _
  refine ⟨_, _, exec_brk s, exec_rti_interrupt _ hd hinv _ true _, ⟨_, by rw [hret]⟩, fun a ha => ?frame⟩
  case frame =>
    refine Eq.trans ?_ (State.read_interrupt_other _ hd hinv (s.pc + 1#16 + 1#16) true Config.irqVector a ha)
    refine State.read_congr_of_ram ?_ ?_ ?_ a
    exacts [hd, rfl, rfl]

/-- RTS undoes the push of a return address in a RAM, but for the bytes in its two slots (R200, R201). -/
theorem exec_rts_pushWord (s : State) (hd : s.device ≠ .attached) (h : s.Inv) (w : Word) :
    exec .rts (s.pushWord w) = .next { s with pc := w + 1#16, mem := (s.pushWord w).mem } := by
  have h1 : s.sp - 2#8 + 1#8 = s.sp - 1#8 := by bv_omega
  have h2 : s.sp - 2#8 + 2#8 = s.sp := BitVec.sub_add_cancel s.sp 2#8
  have hcalls : (s.pushWord w).calls = s.calls := by simp [Device.record_of_ram _ hd]
  rw [exec_rts_of_ram (s.pushWord w) hd, s.pushWord_sp_eq_sub_two, h1, h2, s.read_pushWord_low hd h,
    s.read_pushWord_high hd h, word_hi_lo, hcalls]
  rfl

/-- Settles O47: JSR pushes the address of its last byte, and RTS undoes the push and adds one. -/
theorem jsrThenRtsReturns : Obligations.JsrThenRtsReturns := by
  intro s w h hd
  have hret : s.pc + 2#16 + 1#16 = s.pc + 3#16 := BitVec.add_assoc s.pc 2#16 1#16
  have hinv : ({ s with pc := w } : State).Inv := s.inv_setPc h w
  have hjsr := exec_jsr w s
  rw [s.afterReads_of_ram hd] at hjsr
  refine ⟨_, _, hjsr, rfl, exec_rts_pushWord { s with pc := w } hd hinv (s.pc + 2#16), ⟨_, by rw [hret]⟩,
    fun a ha => ?frame⟩
  case frame =>
    simp only [List.forall_mem_cons, BitVec.sub_zero] at ha
    obtain ⟨hhigh, hlow, -⟩ := ha
    refine Eq.trans ?_ (s.read_pushWord_other hd h (s.pc + 2#16) a hhigh hlow)
    refine State.read_congr_of_ram ?_ ?_ ?_ a
    exacts [hd, rfl, rfl]

end Sys2Proof.Machine
end

section
/-! Who writes which register and flag (10_state.md R22 to R35), operation by operation: each lemma says that an
operation leaves its register or flag alone or is one of the listed writers. -/

namespace Sys2Proof.Machine

/-- The branch helper moves PC alone (R190). -/
theorem branch_eq (cond : Flags → Bool) (am : Am) (s : State) :
    branch cond am s = { s with pc := if cond s.p then am.ea else s.pc } := by
  rw [branch]
  cases cond s.p <;> rfl

/-! The store helper writes A or memory (R102). -/

@[simp] theorem State.store_x (s : State) (am : Am) (v : Byte) : (s.store am v).x = s.x := by
  unfold State.store
  split <;> rfl

@[simp] theorem State.store_y (s : State) (am : Am) (v : Byte) : (s.store am v).y = s.y := by
  unfold State.store
  split <;> rfl

@[simp] theorem State.store_sp (s : State) (am : Am) (v : Byte) : (s.store am v).sp = s.sp := by
  unfold State.store
  split <;> rfl

@[simp] theorem State.store_pc (s : State) (am : Am) (v : Byte) : (s.store am v).pc = s.pc := by
  unfold State.store
  split <;> rfl

/-- A where its destination is memory. -/
theorem State.store_a_of_memory (s : State) (am : Am) (v : Byte) (h : am.acc = false) : (s.store am v).a = s.a := by
  rw [State.store, h]
  rfl

/-- The writers of A (R22); INC and DEC have no accumulator form. -/
theorem opOf_a (m : Mnemonic) (am : Am) (s : State) (h : m ∈ [.inc, .dec] → am.acc = false) :
    (opOf m am s).a = s.a ∨ m ∈ [.lda, .pla, .txa, .tya, .and, .ora, .eor, .adc, .sbc] ∨
      am.acc = true ∧ m ∈ [.asl, .lsr, .rol, .ror] := by
  cases m
  case lda | pla | txa | tya | and | ora | eor | adc | sbc => exact .inr (.inl (by decide))
  case asl | lsr | rol | ror =>
    cases hacc : am.acc with
    | false => exact .inl (s.store_a_of_memory am _ hacc)
    | true => exact .inr (.inr ⟨rfl, by decide⟩)
  case inc | dec => exact .inl (s.store_a_of_memory am _ (h (by decide)))
  case bcc | bcs | beq | bne | bmi | bpl | bvc | bvs => simp [opOf, branch_eq]
  all_goals exact .inl rfl

/-- The writers of X (R23). -/
theorem opOf_x (m : Mnemonic) (am : Am) (s : State) :
    (opOf m am s).x = s.x ∨ m ∈ [.ldx, .tax, .tsx, .inx, .dex] := by
  cases m
  case ldx | tax | tsx | inx | dex => exact .inr (by decide)
  case asl | lsr | rol | ror | inc | dec => exact .inl (s.store_x am _)
  case bcc | bcs | beq | bne | bmi | bpl | bvc | bvs => simp [opOf, branch_eq]
  all_goals exact .inl rfl

/-- The writers of Y (R24). -/
theorem opOf_y (m : Mnemonic) (am : Am) (s : State) : (opOf m am s).y = s.y ∨ m ∈ [.ldy, .tay, .iny, .dey] := by
  cases m
  case ldy | tay | iny | dey => exact .inr (by decide)
  case asl | lsr | rol | ror | inc | dec => exact .inl (s.store_y am _)
  case bcc | bcs | beq | bne | bmi | bpl | bvc | bvs => simp [opOf, branch_eq]
  all_goals exact .inl rfl

/-- The writers of SP (R25). -/
theorem opOf_sp (m : Mnemonic) (am : Am) (s : State) :
    (opOf m am s).sp = s.sp ∨ m ∈ [.pha, .php, .pla, .plp, .jsr, .rts, .brk, .rti, .txs] := by
  cases m
  case pha | php | pla | plp | jsr | rts | brk | rti | txs => exact .inr (by decide)
  case asl | lsr | rol | ror | inc | dec => exact .inl (s.store_sp am _)
  case bcc | bcs | beq | bne | bmi | bpl | bvc | bvs => simp [opOf, branch_eq]
  all_goals exact .inl rfl

/-- Settles O49: by the writers of each register; the device is the one the instruction's calls leave. -/
theorem registersChangeOnlyByTheirWriters : Obligations.RegistersChangeOnlyByTheirWriters := by
  intro i s t h
  obtain ⟨-, hdevice, -⟩ := exec_port h
  obtain rfl := (exec_next_iff i s t).mp h
  have hincDec : i.mnemonic ∈ [.inc, .dec] → (s.am i.operand).acc = false := fun hm =>
    am_acc_of_mode_ne s (mode_ne_accumulator hm (by decide))
  refine ⟨fun ha => ?a, (opOf_x _ _ _).resolve_left, (opOf_y _ _ _).resolve_left, (opOf_sp _ _ _).resolve_left,
    hdevice.trans (foldl_apply_device _ s)⟩
  case a =>
    refine ((opOf_a _ _ _ hincDec).resolve_left ha).imp_right fun ⟨hacc, hm⟩ => ⟨?_, hm⟩
    rw [am_acc, decide_eq_true_iff] at hacc
    exact hacc

/-! The flags. -/

/-- The writers of C (R30). -/
theorem opOf_c (m : Mnemonic) (am : Am) (s : State) : (opOf m am s).p.c = s.p.c ∨
    m ∈ [.adc, .sbc, .cmp, .cpx, .cpy, .asl, .lsr, .rol, .ror, .clc, .sec, .plp, .rti] := by
  cases m
  case adc | sbc | cmp | cpx | cpy | asl | lsr | rol | ror | clc | sec | plp | rti => exact .inr (by decide)
  case bcc | bcs | beq | bne | bmi | bpl | bvc | bvs => simp [opOf, branch_eq]
  all_goals exact .inl rfl

/-- The writers of Z and N (R31, R35). -/
theorem opOf_zn (m : Mnemonic) (am : Am) (s : State) :
    (opOf m am s).p.z = s.p.z ∧ (opOf m am s).p.n = s.p.n ∨
      m ∈ [.lda, .ldx, .ldy, .tax, .tay, .tsx, .txa, .tya, .pla, .and, .ora, .eor, .asl, .lsr, .rol, .ror, .adc, .sbc,
        .cmp, .cpx, .cpy, .inc, .dec, .inx, .dex, .iny, .dey, .bit, .plp, .rti] := by
  cases m
  case sta | stx | sty | txs | pha | php | jmp | jsr | rts | clc | sec | cld | sed | cli | sei | clv | nop | brk =>
    exact .inl ⟨rfl, rfl⟩
  case bcc | bcs | beq | bne | bmi | bpl | bvc | bvs => simp [opOf, branch_eq]
  all_goals exact .inr (by decide)

/-- The writers of I (R32). -/
theorem opOf_i (m : Mnemonic) (am : Am) (s : State) :
    (opOf m am s).p.i = s.p.i ∨ m ∈ [.sei, .cli, .brk, .plp, .rti] := by
  cases m
  case sei | cli | brk | plp | rti => exact .inr (by decide)
  case bcc | bcs | beq | bne | bmi | bpl | bvc | bvs => simp [opOf, branch_eq]
  all_goals exact .inl rfl

/-- The writers of D (R33). -/
theorem opOf_d (m : Mnemonic) (am : Am) (s : State) : (opOf m am s).p.d = s.p.d ∨ m ∈ [.sed, .cld, .plp, .rti] := by
  cases m
  case sed | cld | plp | rti => exact .inr (by decide)
  case bcc | bcs | beq | bne | bmi | bpl | bvc | bvs => simp [opOf, branch_eq]
  all_goals exact .inl rfl

/-- The writers of V (R34). -/
theorem opOf_v (m : Mnemonic) (am : Am) (s : State) :
    (opOf m am s).p.v = s.p.v ∨ m ∈ [.adc, .sbc, .bit, .clv, .plp, .rti] := by
  cases m
  case adc | sbc | bit | clv | plp | rti => exact .inr (by decide)
  case bcc | bcs | beq | bne | bmi | bpl | bvc | bvs => simp [opOf, branch_eq]
  all_goals exact .inl rfl

/-- Settles O50: by the writers of each flag. -/
theorem flagsChangeOnlyByTheirWriters : Obligations.FlagsChangeOnlyByTheirWriters := by
  intro i s t h
  obtain rfl := (exec_next_iff i s t).mp h
  have hzn := opOf_zn i.mnemonic (s.am i.operand) { s.afterMode i.operand with pc := s.nextPc i }
  exact ⟨(opOf_c _ _ _).resolve_left, fun hz => hzn.resolve_left fun hsame => hz hsame.1,
    fun hn => hzn.resolve_left fun hsame => hn hsame.2, (opOf_i _ _ _).resolve_left, (opOf_d _ _ _).resolve_left,
    (opOf_v _ _ _).resolve_left⟩

/-- The writers of PC (R26). -/
theorem opOf_pc (m : Mnemonic) (am : Am) (s : State) : (opOf m am s).pc = s.pc ∨
    m ∈ [.jmp, .jsr, .rts, .rti, .brk] ∨ m ∈ [.bcc, .bcs, .beq, .bne, .bmi, .bpl, .bvc, .bvs] := by
  cases m
  case jmp | jsr | rts | rti | brk => exact .inr (.inl (by decide))
  case bcc | bcs | beq | bne | bmi | bpl | bvc | bvs => exact .inr (.inr (by decide))
  case asl | lsr | rol | ror | inc | dec => exact .inl (s.store_pc am _)
  all_goals exact .inl rfl

theorem mode_of_branch (i : Instr) (h : i.mnemonic ∈ [.bcc, .bcs, .beq, .bne, .bmi, .bpl, .bvc, .bvs]) :
    i.mode = .relative := by
  have hmodes : i.mnemonic.modes = [.relative] := by
    generalize i.mnemonic = m at h
    revert h
    cases m <;> decide
  simpa [hmodes] using i.mode_mem_modes

theorem ofNat_pc_add (pc : Word) (n : Nat) : BitVec.ofNat 16 (pc.toNat + n) = pc + BitVec.ofNat 16 n := by
  rw [BitVec.ofNat_add, BitVec.ofNat_toNat, BitVec.setWidth_eq]

/-- Settles O51: an operation that is no transfer leaves PC past the instruction, and a branch one of two addresses. -/
theorem pcAdvancesUnlessTransferred : Obligations.PcAdvancesUnlessTransferred := by
  intro i s t h
  rw [ofNat_pc_add]
  obtain hsame | htransfer | hbranch :=
    opOf_pc i.mnemonic (s.am i.operand) { s.afterMode i.operand with pc := s.nextPc i }
  · obtain rfl := (exec_next_iff i s t).mp h
    exact .inr (.inl (hsame.trans (nextPc_eq s i)))
  · exact .inl htransfer
  · have hmode := mode_of_branch i hbranch
    obtain rfl := Host.Outcome.next.inj ((exec_of_relative i hmode s).symm.trans h)
    cases branchTaken i.mnemonic s.p with
    | false => exact .inr (.inl rfl)
    | true => exact .inr (.inr ⟨hmode, rfl⟩)

/-! Which operations read D and I: where the flag has another value and the operation does not read it, the answer is
the same but for that flag. -/

/-- The state with D masked out. -/
def State.maskD (s : State) : State := { s with p := { s.p with d := false } }

/-- The state with I masked out. -/
def State.maskI (s : State) : State := { s with p := { s.p with i := false } }

/-- D is read by ADC, SBC and the pushes of the status (R33). -/
theorem opOf_maskD (m : Mnemonic) (am : Am) (s : State) (b : Bool) (h : m ∉ [.adc, .sbc, .php, .brk]) :
    (opOf m am { s with p := { s.p with d := b } }).maskD = (opOf m am s).maskD := by
  obtain ⟨adv, value, acc, ea, crossed⟩ := am
  cases m
  case adc | sbc | php | brk => exact absurd (by decide) h
  case asl | lsr | rol | ror | inc | dec => cases acc <;> rfl
  case bcc | bcs | beq | bne | bmi | bpl | bvc | bvs =>
    simp only [opOf, branch_eq]
    rfl
  all_goals rfl

/-- I is read by the pushes of the status alone (R32). -/
theorem opOf_maskI (m : Mnemonic) (am : Am) (s : State) (b : Bool) (h : m ∉ [.php, .brk]) :
    (opOf m am { s with p := { s.p with i := b } }).maskI = (opOf m am s).maskI := by
  obtain ⟨adv, value, acc, ea, crossed⟩ := am
  cases m
  case php | brk => exact absurd (by decide) h
  case asl | lsr | rol | ror | inc | dec => cases acc <;> rfl
  case bcc | bcs | beq | bne | bmi | bpl | bvc | bvs =>
    simp only [opOf, branch_eq]
    rfl
  all_goals rfl

/-- No mode reads a flag (R82). -/
theorem am_with_flags (s : State) (p : Flags) (o : Operand) :
    ({ s with p := p } : State).am o = s.am o ∧ ({ s with p := p } : State).modeReads o = s.modeReads o := by
  cases o <;> exact ⟨rfl, rfl⟩

/-- Other flags before an instruction are other flags before its operation. -/
theorem exec_with_flags (i : Instr) (s : State) (p : Flags) :
    exec i { s with p := p } =
      .next (opOf i.mnemonic (s.am i.operand) { s.afterMode i.operand with pc := s.nextPc i, p := p }) := by
  obtain ⟨ham, hreads⟩ := am_with_flags s p i.operand
  rw [exec_next, State.nextPc, State.afterMode, ham, hreads]
  rfl

/-- Settles O52: the modes read no flag, and an operation only those its rule names. -/
theorem decimalFlagIsReadOnlyByAdcSbcAndPushes : Obligations.DecimalFlagIsReadOnlyByAdcSbcAndPushes := by
  intro i s t b h
  obtain rfl := (exec_next_iff i s t).mp h
  have hD := opOf_maskD i.mnemonic (s.am i.operand) { s.afterMode i.operand with pc := s.nextPc i } b
  have hI := opOf_maskI i.mnemonic (s.am i.operand) { s.afterMode i.operand with pc := s.nextPc i } b
  exact ⟨fun hm => ⟨_, exec_with_flags i s _, hD hm⟩, fun hm => ⟨_, exec_with_flags i s _, hI hm⟩⟩

end Sys2Proof.Machine
end

section
/-! Frames (20_memory.md R50, R51): in a RAM a byte changes only where a listed write names its cell, so each frame is a
statement on the writes an operation lists. -/

namespace Sys2Proof.Machine

/-- Where no call writes its cell, a byte of a RAM stays. -/
theorem read_foldl_apply_of_ram (l : List Access) (s : State) (hd : s.device ≠ .attached) (h : s.Inv) (a : Word)
    (hl : ∀ b v, Access.write b v ∈ l → s.device.cell a ≠ s.device.cell b) :
    (l.foldl Access.apply s).read a = s.read a := by
  induction l generalizing s with
  | nil => rfl
  | cons x l ih =>
    have hrest := ih (x.apply s) (by rwa [Access.apply_device]) (Access.apply_inv s h x) fun b v hb => by
      rw [Access.apply_device]
      exact hl b v (.tail _ hb)
    rw [List.foldl_cons, hrest]
    cases x with
    | read b => rw [Access.apply, s.afterReads_of_ram hd]
    | write b v => rw [Access.apply, s.read_write_cell hd h, if_neg (hl b v (.head _))]

/-- Where no write of its operation names its cell, an instruction leaves a byte of a RAM alone. -/
theorem read_of_exec_of_ram {i : Instr} {s t : State} (hexec : exec i s = .next t) (hd : s.device ≠ .attached)
    (h : s.Inv) (a : Word)
    (hl : ∀ b v, Access.write b v ∈ operationAccesses i.mnemonic (s.am i.operand) s (s.nextPc i) →
      s.device.cell a ≠ s.device.cell b) : t.read a = s.read a := by
  obtain ⟨hmem, hdevice, hcalls⟩ := exec_port hexec
  rw [State.read_congr _ t hmem hdevice hcalls]
  refine read_foldl_apply_of_ram _ s hd h a fun b v hb => hl b v ?_
  simpa [execAccesses] using hb

theorem storeAccess_of_memory (am : Am) (v : Byte) (h : am.acc = false) : storeAccess am v = [.write am.ea v] := by
  rw [storeAccess, h]
  rfl

/-- The operations with a store, writing memory, list one write, at the effective address (R102). -/
theorem operationAccesses_of_store (m : Mnemonic) (am : Am) (s : State) (next : Word) (hacc : am.acc = false)
    (hm : m ∈ [.sta, .stx, .sty, .inc, .dec, .asl, .lsr, .rol, .ror]) :
    ∃ v, operationAccesses m am s next = [.write am.ea v] := by
  cases m
  case sta | stx | sty => exact ⟨_, rfl⟩
  case inc | dec | asl | lsr | rol | ror => exact ⟨_, storeAccess_of_memory am _ hacc⟩
  all_goals exact absurd hm (by decide)

/-- The forms with a store to memory: none is an accumulator form. -/
theorem mode_and_mnemonic_of_store (i : Instr)
    (h : i.mnemonic ∈ [.sta, .stx, .sty, .inc, .dec] ∨ i.mnemonic ∈ [.asl, .lsr, .rol, .ror] ∧ i.mode ≠ .accumulator) :
    i.mode ≠ .accumulator ∧ i.mnemonic ∈ [.sta, .stx, .sty, .inc, .dec, .asl, .lsr, .rol, .ror] := by
  obtain hstore | ⟨hshift, hmode⟩ := h
  · exact ⟨mode_ne_accumulator hstore (by decide), List.mem_append_left [Mnemonic.asl, .lsr, .rol, .ror] hstore⟩
  · exact ⟨hmode, List.mem_append_right [Mnemonic.sta, .stx, .sty, .inc, .dec] hshift⟩

/-- What only the mnemonics of one list write, those of another leave alone. -/
theorem eq_of_writers_disjoint {α : Type} {x y : α} {m : Mnemonic} {writers others : List Mnemonic}
    (hwriters : x ≠ y → m ∈ writers) (hm : m ∈ others) (hdisjoint : ∀ m ∈ others, m ∉ writers) : x = y :=
  not_not.mp fun hne => hdisjoint m hm (hwriters hne)

/-- No store to memory writes a register. -/
theorem registers_of_store {i : Instr} {s t : State} (h : exec i s = .next t) (hmode : i.mode ≠ .accumulator)
    (hm : i.mnemonic ∈ [.sta, .stx, .sty, .inc, .dec, .asl, .lsr, .rol, .ror]) :
    t.a = s.a ∧ t.x = s.x ∧ t.y = s.y ∧ t.sp = s.sp := by
  obtain ⟨ha, hx, hy, hsp, -⟩ := registersChangeOnlyByTheirWriters i s t h
  have ha' := fun hne => (ha hne).resolve_right fun ⟨hacc, _⟩ => hmode hacc
  exact ⟨eq_of_writers_disjoint ha' hm (by decide), eq_of_writers_disjoint hx hm (by decide),
    eq_of_writers_disjoint hy hm (by decide), eq_of_writers_disjoint hsp hm (by decide)⟩

/-- Settles O53: one write is listed, at the effective address, and the registers have other writers. -/
theorem operandStoresTouchOneCell : Obligations.OperandStoresTouchOneCell := by
  intro i s t h hm
  obtain ⟨hmode, hstore⟩ := mode_and_mnemonic_of_store i hm
  have hacc := am_acc_of_mode_ne s hmode
  obtain ⟨v, hv⟩ := operationAccesses_of_store i.mnemonic (s.am i.operand) s (s.nextPc i) hacc hstore
  refine ⟨fun hinv hd a hcell => ?ram, fun hd => ⟨v, ?attached⟩, registers_of_store h hmode hstore⟩
  case ram =>
    refine read_of_exec_of_ram h hd hinv a fun b w hb => ?_
    rw [hv, List.mem_singleton] at hb
    obtain ⟨rfl, -⟩ := Access.write.inj hb
    exact hcell
  case attached =>
    obtain ⟨-, -, hcalls⟩ := exec_port h
    rw [hcalls, foldl_calls_of_attached _ s hd, execAccesses, hv, List.append_assoc]

/-- Settles O54: the pushes list their slots' writes and no others. -/
theorem pushesTouchOnlyTheirSlots : Obligations.PushesTouchOnlyTheirSlots := by
  intro i s t h outside
  have outside_of_writes (slots : List Byte) (hslots : ∀ b v,
      .write b v ∈ operationAccesses i.mnemonic (s.am i.operand) s (s.nextPc i) →
        ∃ k ∈ slots, b = stackAddr (s.sp - k)) : outside slots := by
    intro hinv hd a ha
    refine read_of_exec_of_ram h hd hinv a fun b v hb => ?_
    obtain ⟨k, hk, rfl⟩ := hslots b v hb
    exact ha k hk
  refine ⟨fun hm => outside_of_writes _ fun b v hb => ?one, fun hm => outside_of_writes _ fun b v hb => ?two,
    fun hm => outside_of_writes _ fun b v hb => ?three, fun hm => ?registers⟩
  case one =>
    obtain hm | hm : i.mnemonic = .pha ∨ i.mnemonic = .php := by simpa using hm
    all_goals
      simp only [hm, operationAccesses, pushAccess, List.mem_singleton, Access.write.injEq] at hb
      simp [hb]
  case two =>
    simp only [hm, operationAccesses, pushWordAccesses, pushAccess, List.mem_cons, List.not_mem_nil, or_false,
      Access.write.injEq] at hb
    obtain ⟨rfl, -⟩ | ⟨rfl, -⟩ := hb
    all_goals simp
  case three =>
    simp only [hm, operationAccesses, interruptAccesses, pushWordAccesses, pushAccess, List.mem_append, List.mem_cons,
      List.not_mem_nil, or_false, Access.write.injEq, reduceCtorEq, or_assoc] at hb
    obtain ⟨rfl, -⟩ | ⟨rfl, -⟩ | ⟨rfl, -⟩ := hb
    all_goals simp
  case registers =>
    obtain ⟨ha, hx, hy, -, -⟩ := registersChangeOnlyByTheirWriters i s t h
    have hmode : i.mode ≠ .accumulator := mode_ne_accumulator hm (by decide)
    have ha' := fun hne => (ha hne).resolve_right fun ⟨hacc, _⟩ => hmode hacc
    exact ⟨eq_of_writers_disjoint ha' hm (by decide), eq_of_writers_disjoint hx hm (by decide),
      eq_of_writers_disjoint hy hm (by decide)⟩

/-- Every other operation lists reads alone. -/
theorem operationAccesses_of_other (m : Mnemonic) (am : Am) (s : State) (next : Word)
    (hm : m ∉ [.sta, .stx, .sty, .inc, .dec, .pha, .php, .jsr, .brk])
    (hacc : m ∈ [.asl, .lsr, .rol, .ror] → am.acc = true) :
    ∃ reads : List Word, operationAccesses m am s next = reads.map .read := by
  cases m
  case sta | stx | sty | inc | dec | pha | php | jsr | brk => exact absurd (by decide) hm
  case asl | lsr | rol | ror => exact ⟨[], if_pos (hacc (by decide))⟩
  case pla | plp => exact ⟨[_], rfl⟩
  case rts => exact ⟨[_, _], rfl⟩
  case rti => exact ⟨[_, _, _], rfl⟩
  all_goals exact ⟨[], rfl⟩

/-- Settles O55: where only reads are listed, the contents stay. -/
theorem otherFormsStoreNothing : Obligations.OtherFormsStoreNothing := by
  intro i s t h hm hmode
  have hacc (hshift : i.mnemonic ∈ [.asl, .lsr, .rol, .ror]) : (s.am i.operand).acc = true := by
    rw [am_acc]
    exact decide_eq_true (hmode hshift)
  obtain ⟨reads, hreads⟩ := operationAccesses_of_other i.mnemonic (s.am i.operand) s (s.nextPc i) hm hacc
  have hport := exec_port h
  rw [execAccesses, hreads, ← List.map_append, foldl_reads] at hport
  obtain ⟨hmem, hdevice, hcalls⟩ := hport
  refine ⟨hmem, fun hd a => State.read_congr_of_ram hd hmem hdevice a, fun hd => ⟨s.modeReads i.operand ++ reads, ?_⟩⟩
  rw [hcalls, State.afterReads_calls, hd]
  rfl

end Sys2Proof.Machine
end

section
/-! SBC, and ADC and SBC in packed BCD (45_arithmetic_compare.md R162 to R165): the masks of the formulas read as
quotients and remainders, then the decimal law on valid digits. -/

namespace Sys2Proof.Machine

/-- The one's complement of R164 over numbers. -/
theorem toNat_xor_allOnes (v : Byte) : (v ^^^ 0xFF#8).toNat = 255 - v.toNat := by
  have hnot : v ^^^ 0xFF#8 = ~~~v := BitVec.xor_allOnes
  rw [hnot, BitVec.toNat_not]

theorem toInt_xor_allOnes (v : Byte) : (v ^^^ 0xFF#8).toInt = -1 - v.toInt := by
  have hv := v.isLt
  simp only [BitVec.toInt_eq_toNat_cond, toNat_xor_allOnes]
  omega

/-- SBC in binary over signed numbers: the complement's sum is the difference with borrow, 256 up (R164). -/
theorem sbcBinary_eq (a v : Byte) (c : Bool) :
    let d : Int := a.toNat - v.toNat - (1 - c.toNat)
    let sd : Int := a.toInt - v.toInt - (1 - c.toNat)
    sbcBinary a v c = ⟨BitVec.ofInt 8 d, decide (0 ≤ d), decide (sd < -128 ∨ sd > 127)⟩ := by
  intro d sd
  have ha := a.isLt
  have hv := v.isLt
  have hc := c.toNat_le
  have hresult : BitVec.ofNat 8 (a.toNat + (v ^^^ 0xFF#8).toNat + c.toNat) = BitVec.ofInt 8 d := by
    apply BitVec.eq_of_toNat_eq
    rw [BitVec.toNat_ofNat, BitVec.toNat_ofInt, toNat_xor_allOnes]
    omega
  have hcarry : decide (a.toNat + (v ^^^ 0xFF#8).toNat + c.toNat ≥ 0x100) = decide (0 ≤ d) := by
    rw [toNat_xor_allOnes, decide_eq_decide]
    omega
  have hoverflow : signedOverflow a (v ^^^ 0xFF#8) (BitVec.ofNat 8 (a.toNat + (v ^^^ 0xFF#8).toNat + c.toNat)) =
      decide (sd < -128 ∨ sd > 127) := by
    rw [Bool.eq_iff_iff, signedOverflow_add_iff, decide_eq_true_iff, toInt_xor_allOnes]
    omega
  rw [hresult] at hoverflow
  simp only [sbcBinary, hcarry, hresult, hoverflow]

theorem sbcSum_of_binary (p : Flags) (h : p.d = false) (a v : Byte) : sbcSum p a v = sbcBinary a v p.c :=
  if_neg (Bool.eq_false_iff.mp h)

/-- What every form of SBC answers (R163). -/
theorem exec_of_sbc (i : Instr) (h : i.mnemonic = .sbc) (s : State) :
    let sum := sbcSum s.p s.a (s.am i.operand).value
    exec i s = .next { s.afterMode i.operand with
      a := sum.result, p := s.p.ofSum sum, pc := s.pc + BitVec.ofNat 16 i.length } :=
  exec_of_mnemonic h s

/-- Settles O38: with D clear the sum is the binary one, read as a difference. -/
theorem sbcBinarySubtractsWithBorrow : Obligations.SbcBinarySubtractsWithBorrow := by
  intro i s hsbc hd
  rw [exec_of_sbc i hsbc, sbcSum_of_binary s.p hd, sbcBinary_eq]
  rfl

/-! The masks of the digit formulas. -/

theorem toNat_and_lowDigit (a : Byte) : (a &&& 0x0F#8).toNat = a.toNat % 16 := by
  rw [BitVec.toNat_and]
  exact Nat.and_two_pow_sub_one_eq_mod a.toNat 4

theorem toNat_and_highDigit : ∀ a : BitVec 8, (a &&& 0xF0#8).toNat = 16 * (a.toNat / 16) := by decide +kernel

theorem or_and_lowDigit (n : Nat) : 0x10 ||| (n &&& 0x0F) = 16 + n % 16 := by
  have hmod : n &&& 0x0F = n % 16 := Nat.and_two_pow_sub_one_eq_mod n 4
  rw [hmod]
  exact (Nat.two_pow_add_eq_or_of_lt (i := 4) (Nat.mod_lt n (by decide)) 1).symm

theorem msb_beq_msb (a v : Byte) : (a.msb == v.msb) = decide (a.toNat / 128 = v.toNat / 128) := by
  have ha := a.isLt
  have hv := v.isLt
  rw [Bool.eq_iff_iff, beq_iff_eq, decide_eq_true_iff, BitVec.msb_eq_decide, BitVec.msb_eq_decide, decide_eq_decide]
  omega

/-- R161's overflow formula over numbers: bit 7 is the quotient by 128. -/
theorem signedOverflow_eq_div (a v r : Byte) : signedOverflow a v r =
    (decide (a.toNat / 128 = v.toNat / 128) && decide (a.toNat / 128 ≠ r.toNat / 128)) := by
  rw [signedOverflow_eq_msb, bne, msb_beq_msb, msb_beq_msb, ← decide_not]

/-- ADC in packed BCD over numbers (R162). -/
theorem adcDecimal_eq (a v : Byte) (c : Bool) :
    let low := a.toNat % 16 + v.toNat % 16 + c.toNat
    let res1 := (if low ≥ 10 then 16 + (low + 6) % 16 else low) + 16 * (a.toNat / 16) + 16 * (v.toNat / 16)
    let res := if res1 ≥ 0xA0 then res1 + 0x60 else res1
    adcDecimal a v c = ⟨BitVec.ofNat 8 res, decide (res ≥ 0x100),
      decide (a.toNat / 128 = v.toNat / 128) && decide (a.toNat / 128 ≠ res1 / 128 % 2)⟩ := by
  have hbit (n : Nat) : n % 2 ^ 8 / 128 = n / 128 % 2 := by omega
  simp only [adcDecimal, toNat_and_lowDigit, toNat_and_highDigit, or_and_lowDigit, signedOverflow_eq_div,
    BitVec.toNat_ofNat, hbit]

/-- SBC in packed BCD over numbers (R165). -/
theorem sbcDecimal_eq (a v : Byte) (c : Bool) :
    let low : Int := 15 + (a.toNat : Int) % 16 - (v.toNat : Int) % 16 + c.toNat
    let high : Int := (if low < 16 then 0 else 16) + 240 + 16 * ((a.toNat : Int) / 16) - 16 * ((v.toNat : Int) / 16)
    let res : Int := (if low < 16 then low - 6 else low - 16) + (if high < 256 then high - 96 else high)
    let r8 := BitVec.ofInt 8 res
    sbcDecimal a v c = ⟨r8, decide (res ≥ 256),
      decide (a.toNat / 128 ≠ v.toNat / 128) && decide (a.toNat / 128 ≠ r8.toNat / 128)⟩ := by
  have ha := a.isLt
  have hv := v.isLt
  have hsign : (a.toNat / 128 = (255 - v.toNat) / 128) = (a.toNat / 128 ≠ v.toNat / 128) := by
    rw [eq_iff_iff]
    omega
  simp only [sbcDecimal, toNat_and_lowDigit, toNat_and_highDigit, signedOverflow_eq_div, toNat_xor_allOnes, hsign,
    Nat.cast_mul, Int.natCast_mod, Int.natCast_ediv, Nat.cast_ofNat]

theorem adcSum_of_decimal (p : Flags) (h : p.d = true) (a v : Byte) : adcSum p a v = adcDecimal a v p.c := if_pos h

theorem sbcSum_of_decimal (p : Flags) (h : p.d = true) (a v : Byte) : sbcSum p a v = sbcDecimal a v p.c := if_pos h

/-- Settles O39: with D set the sum is the decimal one, its masks read as digits. -/
theorem adcAndSbcDecimalFormulas : Obligations.AdcAndSbcDecimalFormulas := by
  refine fun i s hd => ⟨fun hadc => ?adc, fun hsbc => ?sbc⟩
  case adc =>
    rw [exec_of_adc i hadc, adcSum_of_decimal s.p hd, adcDecimal_eq]
    rfl
  case sbc =>
    rw [exec_of_sbc i hsbc, sbcSum_of_decimal s.p hd, sbcDecimal_eq]
    rfl

/-! The decimal law (R171): on valid digits the formulas add and subtract the numbers the bytes stand for. -/

/-- Both digits are decimal. -/
def ValidBcd (b : Byte) : Prop := b.toNat / 16 ≤ 9 ∧ b.toNat % 16 ≤ 9

/-- The number two decimal digits stand for. -/
def bcdNumber (b : Byte) : Nat := 10 * (b.toNat / 16) + b.toNat % 16

theorem bcd_of_digits {b : Byte} {n d e : Nat} (hd : d ≤ 9) (he : e ≤ 9) (hb : b.toNat = 16 * d + e)
    (hn : n = 10 * d + e) : ValidBcd b ∧ bcdNumber b = n := by
  rw [ValidBcd, bcdNumber, hb]
  omega

/-- The sum of R162 on digits: the low adjustment carries one into the high digit, the high one a hundred out. -/
theorem adc_digits (ah al vh vl c : Nat) (hah : ah ≤ 9) (hal : al ≤ 9) (hvh : vh ≤ 9) (hvl : vl ≤ 9) (hc : c ≤ 1) :
    let low := al + vl + c
    let res1 := (if low ≥ 10 then 16 + (low + 6) % 16 else low) + 16 * ah + 16 * vh
    let res := if res1 ≥ 0xA0 then res1 + 0x60 else res1
    let sum := 10 * ah + al + (10 * vh + vl) + c
    ∃ d e, d ≤ 9 ∧ e ≤ 9 ∧ res % 256 = 16 * d + e ∧ sum % 100 = 10 * d + e ∧ (res ≥ 0x100 ↔ sum ≥ 100) := by
  intro low res1 res sum
  obtain ⟨q, e, he, hres1, hsum⟩ : ∃ q e, e ≤ 9 ∧ res1 = 16 * q + e ∧ sum = 10 * q + e := by
    by_cases hlow : low ≥ 10
    · refine ⟨ah + vh + 1, low - 10, ?_⟩
      simp only [res1, if_pos hlow]
      omega
    · refine ⟨ah + vh, low, ?_⟩
      simp only [res1, if_neg hlow]
      omega
  by_cases hhigh : res1 ≥ 0xA0
  · refine ⟨q - 10, e, ?_⟩
    simp only [res, if_pos hhigh]
    omega
  · refine ⟨q, e, ?_⟩
    simp only [res, if_neg hhigh]
    omega

/-- The difference of R165 on digits: the low digit borrows one from the high digit, and that one from the carry. -/
theorem sbc_digits (ah al vh vl c : Nat) (hah : ah ≤ 9) (hal : al ≤ 9) (hvh : vh ≤ 9) (hvl : vl ≤ 9) (hc : c ≤ 1) :
    let low : Int := 15 + al - vl + c
    let high : Int := (if low < 16 then 0 else 16) + 240 + 16 * ah - 16 * vh
    let res : Int := (if low < 16 then low - 6 else low - 16) + (if high < 256 then high - 96 else high)
    let difference := 10 * ah + al + 99 + c - (10 * vh + vl)
    ∃ d e, d ≤ 9 ∧ e ≤ 9 ∧ (res % 256).toNat = 16 * d + e ∧ difference % 100 = 10 * d + e ∧
      (res ≥ 256 ↔ 10 * ah + al + c ≥ 10 * vh + vl + 1) := by
  intro low high res difference
  obtain ⟨q, e, he, hhigh, hres, hdifference⟩ : ∃ q e : Nat, e ≤ 9 ∧ high = 16 * q + 96 ∧
      res = e + (if high < 256 then high - 96 else high) ∧ difference = 10 * q + e := by
    by_cases hlow : low < 16
    · refine ⟨9 + ah - vh, 9 + al + c - vl, ?_⟩
      simp only [high, res, if_pos hlow]
      omega
    · refine ⟨10 + ah - vh, al + c - 1 - vl, ?_⟩
      simp only [high, res, if_neg hlow]
      omega
  by_cases hborrow : high < 256
  · refine ⟨q, e, ?_⟩
    rw [if_pos hborrow] at hres
    omega
  · refine ⟨q - 10, e, ?_⟩
    rw [if_neg hborrow] at hres
    omega

theorem adcDecimal_of_validBcd {a v : Byte} (c : Bool) (ha : ValidBcd a) (hv : ValidBcd v) :
    let sum := bcdNumber a + bcdNumber v + c.toNat
    ValidBcd (adcDecimal a v c).result ∧ bcdNumber (adcDecimal a v c).result = sum % 100 ∧
      (adcDecimal a v c).carry = decide (sum ≥ 100) := by
  obtain ⟨hah, hal⟩ := ha
  obtain ⟨hvh, hvl⟩ := hv
  obtain ⟨d, e, hd, he, hres, hsum, hcarry⟩ := adc_digits _ _ _ _ c.toNat hah hal hvh hvl c.toNat_le
  rw [adcDecimal_eq, ← and_assoc]
  exact ⟨bcd_of_digits hd he ((BitVec.toNat_ofNat _ _).trans hres) hsum, decide_eq_decide.mpr hcarry⟩

theorem sbcDecimal_of_validBcd {a v : Byte} (c : Bool) (ha : ValidBcd a) (hv : ValidBcd v) :
    ValidBcd (sbcDecimal a v c).result ∧
      bcdNumber (sbcDecimal a v c).result = (bcdNumber a + 99 + c.toNat - bcdNumber v) % 100 ∧
      (sbcDecimal a v c).carry = decide (bcdNumber a + c.toNat ≥ bcdNumber v + 1) := by
  obtain ⟨hah, hal⟩ := ha
  obtain ⟨hvh, hvl⟩ := hv
  obtain ⟨d, e, hd, he, hres, hdifference, hcarry⟩ := sbc_digits _ _ _ _ c.toNat hah hal hvh hvl c.toNat_le
  rw [sbcDecimal_eq, ← and_assoc]
  exact ⟨bcd_of_digits hd he ((BitVec.toNat_ofInt _).trans hres) hdifference, decide_eq_decide.mpr hcarry⟩

/-- Settles O40: the digit formulas on valid digits. -/
theorem decimalSumsOfValidDigits : Obligations.DecimalSumsOfValidDigits := by
  refine fun i s hd ha hv => ⟨fun hadc => ⟨_, exec_of_adc i hadc s, ?adc⟩, fun hsbc => ⟨_, exec_of_sbc i hsbc s, ?sbc⟩⟩
  case adc =>
    rw [adcSum_of_decimal s.p hd]
    exact adcDecimal_of_validBcd s.p.c ha hv
  case sbc =>
    rw [sbcSum_of_decimal s.p hd]
    exact sbcDecimal_of_validBcd s.p.c ha hv

end Sys2Proof.Machine
end

section
/-! The remaining modes (40_step_and_addressing.md R83, R87, R88, R101): sums modulo 65,536, the destination A, and the
signed offset. -/

namespace Sys2Proof.Machine

/-- AbsoluteX and AbsoluteY over numbers (R87, R88). -/
theorem amAbsoluteIndexed_eq (s : State) (w : Word) (index : Byte) :
    let ea := BitVec.ofNat 16 (w.toNat + index.toNat)
    amAbsoluteIndexed s w index = ⟨2#16, s.read ea, false, ea, decide (ea.toNat / 256 ≠ w.toNat / 256)⟩ := by
  rw [amAbsoluteIndexed, pageCrossed_eq_decide, add_zext_eq_ofNat]
  rfl

theorem ofInt_toInt_add_toInt (w : Word) (b : Byte) : BitVec.ofInt 16 (w.toInt + b.toInt) = w + sext b := by
  rw [BitVec.ofInt_add, BitVec.ofInt_toInt]
  rfl

/-- Relative over signed numbers (R101). -/
theorem amRelative_eq (pc1 : Word) (b : Byte) :
    let next := pc1 + 1#16
    let target := BitVec.ofInt 16 (next.toInt + b.toInt)
    amRelative pc1 b = ⟨1#16, b, false, target, decide (target.toNat / 256 ≠ next.toNat / 256)⟩ := by
  intro next target
  have htarget : target = next + sext b := ofInt_toInt_add_toInt next b
  rw [htarget, ← pageCrossed_eq_decide]
  rfl

/-- Settles O20: each mode runs on the bytes read after the opcode. -/
theorem absoluteIndexedAccumulatorAndRelativeModes : Obligations.AbsoluteIndexedAccumulatorAndRelativeModes := by
  intro s i h
  have hnext : s.pc + 2#16 = s.pc + 1#16 + 1#16 := (BitVec.add_assoc s.pc 1#16 1#16).symm
  rw [hnext]
  refine ⟨fun hm => ?absoluteX, fun hm => ?absoluteY, fun hm => ?accumulator, fun hm => ?relative⟩
  case absoluteX =>
    rw [operand_eq_of_decodeAt h (.absoluteX _) hm (bytes_of_operand_word s)]
    exact amAbsoluteIndexed_eq _ _ _
  case absoluteY =>
    rw [operand_eq_of_decodeAt h (.absoluteY _) hm (bytes_of_operand_word s)]
    exact amAbsoluteIndexed_eq _ _ _
  case accumulator =>
    rw [operand_of_accumulator hm]
    rfl
  case relative =>
    rw [operand_eq_of_decodeAt h (.relative _) hm rfl]
    exact amRelative_eq _ _

end Sys2Proof.Machine
end

section
/-! Cycle counts (30_encoding.md R67 to R71), by the row of the instruction. -/

namespace Sys2Proof.Machine

/-- The map's row of an instruction: what it says of count and mark is what the instruction reports. -/
theorem exists_row (i : Instr) : ∃ r, rowOf i.opcode = some r ∧ r.mnemonic = i.mnemonic ∧ r.mode = i.mode ∧
    baseCycles i = r.cycles ∧ hasPenalty i = r.penalty := by
  obtain ⟨-, -, -, cycles, penalty, hrow⟩ := Laws.Shape.all i
  refine ⟨_, hrow, rfl, rfl, ?_, ?_⟩
  · simp only [baseCycles, Instr.row, hrow]
  · simp only [hasPenalty, Instr.row, hrow]

/-- The marked instructions are the indexed reads (R69). -/
theorem hasPenalty_iff (i : Instr) : hasPenalty i = true ↔
    i.mnemonic ∈ [.adc, .and, .cmp, .eor, .lda, .ldx, .ldy, .ora, .sbc] ∧
      i.mode ∈ [.absoluteX, .absoluteY, .indirectY] := by
  obtain ⟨r, hrow, hmnemonic, hmode, -, hpenalty⟩ := exists_row i
  obtain ⟨-, -, -, -, hiff⟩ := rowOf_timing i.opcode r hrow
  rw [hpenalty, hiff, hmnemonic, hmode]

theorem baseCycles_of_relative (i : Instr) (h : i.mode = .relative) : baseCycles i = 2 := by
  obtain ⟨r, hrow, -, hmode, hcycles, -⟩ := exists_row i
  obtain ⟨-, -, -, hrelative, -⟩ := rowOf_timing i.opcode r hrow
  rw [hcycles, hrelative (hmode.trans h)]

theorem hasPenalty_of_relative (i : Instr) (h : i.mode = .relative) : hasPenalty i = false := by
  rw [Bool.eq_false_iff, ne_eq, hasPenalty_iff, h]
  exact fun hindexed => absurd hindexed.2 (by decide)

/-- An instruction that is no branch is never taken. -/
theorem branchTaken_of_not_relative (i : Instr) (h : i.mode ≠ .relative) (p : Flags) :
    branchTaken i.mnemonic p = false := by
  rw [Bool.eq_false_iff]
  exact fun htaken => h (mode_of_branchTaken i p htaken)

/-- What an instruction other than a branch reports (R69). -/
theorem instrCycles_of_not_relative (i : Instr) (h : i.mode ≠ .relative) (s : State) :
    instrCycles i s = baseCycles i + oneIf (hasPenalty i && (s.am i.operand).crossed) := by
  rw [instrCycles, branchTaken_of_not_relative i h]
  rfl

/-- A branch crosses when its target lies in another page than the next instruction (R70). -/
theorem crossed_of_relative (i : Instr) (h : i.mode = .relative) (s : State) :
    (s.am i.operand).crossed = (hi (s.am i.operand).ea != hi (s.pc + BitVec.ofNat 16 i.length)) := by
  obtain ⟨b, hb⟩ := operand_of_relative i h
  have hnext : s.pc + BitVec.ofNat 16 i.length = s.pc + 1#16 + 1#16 := by
    rw [Instr.length, h]
    exact (BitVec.add_assoc s.pc 1#16 1#16).symm
  rw [hnext, hb]
  rfl

/-- What a branch reports (R70). -/
theorem instrCycles_of_relative (i : Instr) (h : i.mode = .relative) (s : State) :
    instrCycles i s = if branchTaken i.mnemonic s.p then
      (if hi (s.am i.operand).ea = hi (s.pc + BitVec.ofNat 16 i.length) then 3 else 4) else 2 := by
  rw [instrCycles, baseCycles_of_relative i h, hasPenalty_of_relative i h, crossed_of_relative i h]
  cases branchTaken i.mnemonic s.p with
  | false => rfl
  | true => by_cases hpage : hi (s.am i.operand).ea = hi (s.pc + BitVec.ofNat 16 i.length) <;> simp [hpage, oneIf]

/-- Settles O58: the counts are read off the rows, and the marked rows are the indexed reads. -/
theorem cyclesOfAnInstruction : Obligations.CyclesOfAnInstruction := by
  refine ⟨fun i => ?counts, fun i s => ⟨fun h => ⟨instrCycles_of_relative i h s, exec_of_relative i h s⟩,
    fun h => ?indexedRead, fun hmode h => ?other⟩⟩
  case counts =>
    obtain ⟨r, hrow, hmnemonic, hmode, hcycles, -⟩ := exists_row i
    have hr := rowOf_mem_opcodeMap _ r hrow
    rw [← hmnemonic, ← hmode, hcycles]
    clear hrow hmnemonic hmode hcycles
    revert r
    decide +kernel
  case indexedRead =>
    have hmode : i.mode ≠ .relative := fun hrelative => absurd (hrelative ▸ h.2) (by decide)
    rw [instrCycles_of_not_relative i hmode, (hasPenalty_iff i).mpr h]
    rfl
  case other =>
    have hpenalty : hasPenalty i = false := Bool.eq_false_iff.mpr fun hp => h ((hasPenalty_iff i).mp hp)
    rw [instrCycles_of_not_relative i hmode, hpenalty]
    rfl

theorem oneIf_le_one (b : Bool) : oneIf b ≤ 1 := by
  cases b <;> decide

/-- An instruction takes two to seven cycles: a marked row has five at most, a branch two. -/
theorem instrCycles_bounds (i : Instr) (s : State) : 2 ≤ instrCycles i s ∧ instrCycles i s ≤ 7 := by
  by_cases hmode : i.mode = .relative
  · rw [instrCycles_of_relative i hmode]
    split
    · split <;> decide
    · decide
  · obtain ⟨r, hrow, -, -, hcycles, hpenalty⟩ := exists_row i
    obtain ⟨hlow, hhigh, hmarked, -, -⟩ := rowOf_timing i.opcode r hrow
    rw [instrCycles_of_not_relative i hmode, hcycles, hpenalty]
    cases hr : r.penalty with
    | false => exact ⟨hlow, hhigh⟩
    | true =>
      have hfive := hmarked hr
      have hone := oneIf_le_one (true && (s.am i.operand).crossed)
      omega

/-- Every step reports a cycle or more, a faulting one exactly one (R64, R71). -/
theorem stepCycles_pos (s : State) : 1 ≤ stepCycles s := by
  rw [stepCycles]
  split
  · exact (Nat.le_succ 1).trans (instrCycles_bounds _ _).1
  · exact le_rfl

theorem stepCycles_le_seven (s : State) : stepCycles s ≤ 7 := by
  rw [stepCycles]
  split
  · exact (instrCycles_bounds _ _).2
  · decide

end Sys2Proof.Machine
end

section
/-! run_for (40_step_and_addressing.md R81): what the loop has done when it ends, by induction on its fuel. -/

namespace Sys2Proof.Machine

/-- A run of states with one more in front. -/
def consRun (s : State) (c : Nat → State) : Nat → State
  | 0 => s
  | j + 1 => c j

theorem steps_consRun {s t : State} {k : Nat} {c : Nat → State} (hstep : step s = .next t) (h : Steps t k c) :
    Steps s (k + 1) (consRun s c) := by
  obtain ⟨hstart, hnext⟩ := h
  refine ⟨rfl, fun j hj => ?_⟩
  cases j with
  | zero => exact hstep.trans (congrArg _ hstart.symm)
  | succ j => exact hnext j (Nat.lt_of_succ_lt_succ hj)

@[simp] theorem cyclesOf_zero (c : Nat → State) : cyclesOf c 0 = 0 := rfl

@[simp] theorem accessesOf_zero (c : Nat → State) : accessesOf c 0 = [] := rfl

theorem cyclesOf_succ (c : Nat → State) (m : Nat) : cyclesOf c (m + 1) = cyclesOf c m + stepCycles (c m) := by
  simp [cyclesOf, List.range_succ]

@[simp] theorem cyclesOf_consRun (s : State) (c : Nat → State) (m : Nat) :
    cyclesOf (consRun s c) (m + 1) = stepCycles s + cyclesOf c m := by
  simp [cyclesOf, List.range_succ_eq_map, consRun, Function.comp_def]

@[simp] theorem accessesOf_consRun (s : State) (c : Nat → State) (m : Nat) :
    accessesOf (consRun s c) (m + 1) = stepAccesses s ++ accessesOf c m := by
  simp [accessesOf, List.range_succ_eq_map, consRun, List.flatMap_map]

/-- Every step counts, so `m` steps take `m` cycles or more. -/
theorem le_cyclesOf (c : Nat → State) (m : Nat) : m ≤ cyclesOf c m := by
  induction m with
  | zero => exact Nat.zero_le _
  | succ m ih =>
    rw [cyclesOf_succ]
    exact Nat.add_le_add ih (stepCycles_pos _)

/-- The three ways a run can end that had counted `elapsed` and made the accesses `made` before the steps from `c 0`,
…, `c (k - 1)`: the budget is reached in the last of them, the step at `c k` faults, or `fuel` steps are all made. -/
inductive RunEnded (budget fuel elapsed : Nat) (made : List Access) (k : Nat) (c : Nat → State) : Run → Prop where
  | budgetSpent (j : Nat) (hk : k = j + 1) (hbudget : budget ≠ 0) (hbefore : elapsed + cyclesOf c j < budget)
      (hreached : budget ≤ elapsed + cyclesOf c k) :
      RunEnded budget fuel elapsed made k c
        ⟨elapsed + cyclesOf c k, .budgetSpent, made ++ accessesOf c k, c k⟩
  | faulted (f : Fault) (hstep : step (c k) = .fault f) (hbefore : budget ≠ 0 → elapsed + cyclesOf c k < budget) :
      RunEnded budget fuel elapsed made k c
        ⟨elapsed + cyclesOf c k + 1, .faulted f, made ++ accessesOf c (k + 1), (c k).afterFault⟩
  | outOfFuel (hk : k = fuel) (hbefore : budget ≠ 0 → elapsed + cyclesOf c k < budget) :
      RunEnded budget fuel elapsed made k c ⟨elapsed + cyclesOf c k, .outOfFuel, made ++ accessesOf c k, c k⟩

/-- A step in front: its count and accesses are those the rest of the run has found. -/
theorem RunEnded.cons {budget fuel elapsed k : Nat} {made : List Access} {s : State} {c : Nat → State} {r : Run}
    (h : RunEnded budget fuel (elapsed + stepCycles s) (made ++ stepAccesses s) k c r) :
    RunEnded budget (fuel + 1) elapsed made (k + 1) (consRun s c) r := by
  have hcycles (m : Nat) : elapsed + stepCycles s + cyclesOf c m = elapsed + cyclesOf (consRun s c) (m + 1) := by
    rw [cyclesOf_consRun, Nat.add_assoc]
  have haccesses (m : Nat) :
      made ++ stepAccesses s ++ accessesOf c m = made ++ accessesOf (consRun s c) (m + 1) := by
    rw [accessesOf_consRun, List.append_assoc]
  cases h with
  | budgetSpent j hk hbudget hbefore hreached =>
    rw [hcycles] at hbefore hreached
    rw [hcycles, haccesses]
    exact .budgetSpent (j + 1) (congrArg (· + 1) hk) hbudget hbefore hreached
  | faulted f hstep hbefore =>
    rw [hcycles] at hbefore
    rw [hcycles, haccesses]
    exact .faulted f hstep hbefore
  | outOfFuel hk hbefore =>
    rw [hcycles] at hbefore
    rw [hcycles, haccesses]
    exact .outOfFuel (congrArg (· + 1) hk) hbefore

/-- What the run loop does, from a state in which its budget is not yet reached. -/
theorem runLoop_ended (budget fuel elapsed : Nat) (made : List Access) (s : State)
    (h : budget ≠ 0 → elapsed < budget) :
    ∃ (k : Nat) (c : Nat → State), Steps s k c ∧
      RunEnded budget fuel elapsed made k c (runLoop budget fuel elapsed made s) := by
  induction fuel generalizing elapsed made s with
  | zero =>
    refine ⟨0, fun _ => s, ⟨rfl, nofun⟩, ?_⟩
    simpa [runLoop] using RunEnded.outOfFuel (made := made) (k := 0) (c := fun _ => s) rfl h
  | succ fuel ih =>
    obtain ⟨t, ht⟩ | ⟨hfault, hrow⟩ := step_next_or_unmapped s
    · simp only [runLoop, ht]
      split
      · next hspent =>
        obtain ⟨hbudget, hreached⟩ := hspent
        refine ⟨1, consRun s fun _ => t, steps_consRun ht ⟨rfl, nofun⟩, ?_⟩
        simpa [consRun] using RunEnded.budgetSpent (fuel := fuel + 1) (made := made) (k := 1)
          (c := consRun s fun _ => t) 0 rfl hbudget (h hbudget) (by simpa using hreached)
      · next hunspent =>
        obtain ⟨k, c, hsteps, hended⟩ := ih (elapsed + stepCycles s) (made ++ stepAccesses s) t fun hbudget =>
          Nat.not_le.mp fun hreached => hunspent ⟨hbudget, hreached⟩
        exact ⟨k + 1, consRun s c, steps_consRun ht hsteps, hended.cons⟩
    · simp only [runLoop, hfault, stepCycles_of_unmapped s hrow]
      refine ⟨0, fun _ => s, ⟨rfl, nofun⟩, ?_⟩
      simpa [accessesOf] using RunEnded.faulted (fuel := fuel + 1) (made := made) (k := 0) (c := fun _ => s) _ hfault h

/-- Settles O59: a run ends in one of three ways; a budget of `n` leaves no room for `n` steps below it, and a last step
of seven cycles or less is at most six over it. -/
theorem runForStopsAtItsBudget : Obligations.RunForStopsAtItsBudget := by
  refine ⟨fun s n hn => ?budget, fun s fuel => ?unbounded⟩
  case budget =>
    obtain ⟨k, c, hsteps, hended⟩ := runLoop_ended n n 0 [] s fun _ => hn
    refine ⟨k, c, hsteps, ?_⟩
    rw [State.runFor]
    generalize runLoop n n 0 [] s = r at hended
    cases hended with
    | budgetSpent j hk _ hbefore hreached =>
      subst hk
      have hlast := stepCycles_le_seven (c j)
      rw [Nat.zero_add] at hbefore hreached ⊢
      refine .inl ⟨rfl, Nat.le_add_left 1 j, rfl, rfl, rfl, hbefore, hreached, ?_⟩
      show cyclesOf c (j + 1) ≤ n + 6
      rw [cyclesOf_succ]
      omega
    | faulted f hstep hbefore =>
      rw [Nat.zero_add] at hbefore ⊢
      exact .inr ⟨f, rfl, hstep, rfl, rfl, rfl, hbefore (Nat.ne_of_gt hn)⟩
    | outOfFuel hk hbefore =>
      have := le_cyclesOf c k
      have := hbefore (Nat.ne_of_gt hn)
      omega
  case unbounded =>
    obtain ⟨k, c, hsteps, hended⟩ := runLoop_ended 0 fuel 0 [] s fun h => absurd rfl h
    refine ⟨k, c, hsteps, ?_⟩
    rw [State.runUnbounded]
    generalize runLoop 0 fuel 0 [] s = r at hended
    cases hended with
    | budgetSpent j hk hbudget => exact absurd rfl hbudget
    | faulted f hstep hbefore =>
      rw [Nat.zero_add]
      exact .inr ⟨f, rfl, hstep, rfl, rfl, rfl⟩
    | outOfFuel hk hbefore =>
      rw [Nat.zero_add]
      exact .inl ⟨rfl, hk, rfl, rfl, rfl⟩

end Sys2Proof.Machine
end

section
/-! The end of a run (70_reset_and_hazards.md R267): a jump or taken branch to itself. -/

namespace Sys2Proof.Machine

theorem operationAccesses_of_branchTaken {m : Mnemonic} {p : Flags} (h : branchTaken m p = true) (am : Am) (s : State)
    (next : Word) : operationAccesses m am s next = [] := by
  cases m
  case bcc | bcs | beq | bne | bmi | bpl | bvc | bvs => rfl
  all_goals cases h

/-- A jump or a taken branch: PC goes to the effective address, and the reads of the mode are its only calls. -/
theorem exec_of_transfer (i : Instr) (s : State) (h : i.mnemonic = .jmp ∨ branchTaken i.mnemonic s.p = true) :
    exec i s = .next { s.afterMode i.operand with pc := (s.am i.operand).ea } ∧
      execAccesses i s = (s.modeReads i.operand).map .read := by
  obtain hjmp | htaken := h
  · refine ⟨exec_of_mnemonic hjmp s, ?_⟩
    rw [execAccesses, hjmp]
    exact List.append_nil _
  · have hmode := mode_of_branchTaken i s.p htaken
    obtain ⟨b, hb⟩ := operand_of_relative i hmode
    have hafter : s.afterMode i.operand = s := by
      rw [hb]
      exact s.afterReads_nil
    rw [exec_of_relative i hmode, if_pos htaken, hafter, execAccesses, operationAccesses_of_branchTaken htaken]
    exact ⟨rfl, List.append_nil _⟩

/-- What the condition of R267 says of the instruction at PC. -/
theorem exists_of_jumpsToItself {s : State} (h : s.jumpsToItself = true) :
    ∃ i, s.decodeAt = .ok i ∧ (i.mnemonic = .jmp ∨ branchTaken i.mnemonic s.p = true) ∧
      ((s.fetched i).am i.operand).ea = s.pc := by
  cases hi : s.decodeAt with
  | ok i =>
    simp only [State.jumpsToItself, hi, Bool.and_eq_true, Bool.or_eq_true, beq_iff_eq] at h
    exact ⟨i, rfl, h⟩
  | error f => simp [State.jumpsToItself, hi] at h

/-- Settles O60: PC is written with its own value, and only reads have been made. -/
theorem selfJumpChangesNothing : Obligations.SelfJumpChangesNothing := by
  intro s h
  obtain ⟨i, hi, htransfer, hea⟩ := exists_of_jumpsToItself h
  obtain ⟨hexec, haccesses⟩ := exec_of_transfer i (s.fetched i) htransfer
  have hstep : step s = .next (s.afterReads (addressesFrom s.pc i.length ++ (s.fetched i).modeReads i.operand)) := by
    rw [step_of_decodeAt_ok hi, hexec, hea, ← State.afterReads_afterReads]
    rfl
  refine ⟨⟨_, ?accesses, hstep⟩, fun hd => ?ram⟩
  case accesses => rw [stepAccesses_of_decodeAt_ok hi, haccesses, List.map_append]
  case ram => rw [hstep, s.afterReads_of_ram hd]

end Sys2Proof.Machine
end
